-- ==== Sys2Proof/Word.lean ====
section
/-! DEFINITION. The unit of every link of the part: one byte (R112, R167, R183). -/

namespace Sys2Proof

/-- One byte of a frame. -/
abbrev Byte := BitVec 8

end Sys2Proof
end

