-- ==== Sys2Proof/Config.lean ====
section
/-! DEFINITION. What the manual fixes once for the part: capacities (Table 1-3), limits of counters,
defaults after power-on reset, ring addresses. The manual leaves no value of an executed event open,
so there is no free value here. -/

namespace Sys2Proof.Config

/-- Pallet records held at most (R4). -/
def maxRecords : Nat := 64
/-- Return-queue capacity C after power-on reset (R7). -/
def defaultCapacity : Nat := 16
/-- Upper limit of the cycle count (R3). -/
def maxCycle : Nat := 9999999
/-- The wrap of the time base count, the index count and other 32-bit counters (R11, R175). -/
def wrap32 : Nat := 4294967296
/-- Saturation of the link counts, lost counts and missed scans (R176, R177, R181). -/
def maxCount16 : Nat := 65535
/-- Saturation of the halt count (R159). -/
def maxHalts : Nat := 255
/-- Stations the part can serve (R43, R46). -/
def maxStations : Nat := 24
/-- Routes of the route table (R32). -/
def routes : Nat := 8
/-- Points a cam bank holds at most (R129). -/
def maxPoints : Nat := 32
/-- Highest position a cam point may name, in micrometres (R128). -/
def maxPosition : Nat := 1200000
/-- Request frames held at most (R171). -/
def requestSlots : Nat := 4
/-- BUSY replies held at most (R171). -/
def busySlots : Nat := 4
/-- Reports held at most (R176). -/
def reportSlots : Nat := 32
/-- Bytes of a payload at most (R167). -/
def maxPayload : Nat := 240
/-- Secondary causes a halt record holds at most (R65). -/
def maxSecondary : Nat := 3
/-- Ring address of the line node (Table 11-1). -/
def lineNode : Nat := 30
/-- Consecutive misses after which a node or the drive link is lost (R113, R181). -/
def lossCount : Nat := 3
/-- Part designation "KOLVAN24" (R177). -/
def designation : List Byte := [0x4B, 0x4F, 0x4C, 0x56, 0x41, 0x4E, 0x32, 0x34]
/-- Part revision (R177). -/
def revision : Nat := 1
/-- Seconds to ticks (R2, R54, R98, R142). -/
def second : Nat := 1000
/-- Units of P1 and P2 to ticks (R69). -/
def stageUnit : Nat := 100

end Sys2Proof.Config
end

