-- ==== Sys2Proof/Syntax.lean ====
section
/-! DEFINITION. The commands of the part, one constructor per row of spec/opcode_table.json, with the
row's operands. A request carries its tag and its fields at the widths of R170; the fields keep every
value their width can hold, in range or not, because the request's own rule judges them. -/

namespace Sys2Proof

/-- A valve channel (R95): the locator of a position, the clamp of a station, the lift. -/
inductive ChannelId where
  | locator (position : Nat)
  | clamp (station : Nat)
  | lift
deriving DecidableEq, Repr

/-- A single-position request of SCT (R105): the re-clamp of a station, the Feed Unit's LOCATE and its
UNLOCATE at position 0. -/
inductive RequestId where
  | reclamp (station : Nat)
  | seatLoad
  | releaseLoad
deriving DecidableEq, Repr

/-- The fields of SET LINE, each optional, at the widths of Table 10-3. -/
structure LineFields where
  n : Option Byte
  c : Option Byte
  inspectionLimit : Option (BitVec 32)
  stroke : Option (BitVec 32)
  velocity : Option (BitVec 16)
  acceleration : Option Byte
  quickStop : Option Byte
  errorLimit : Option (BitVec 16)
  errorPersistence : Option Byte
  band : Option (BitVec 16)
  settleTimeout : Option (BitVec 16)
  pulseLength : Option (BitVec 16)
  clampStagger : Option (BitVec 16)
  releaseTimeout : Option (BitVec 16)
  locateTimeout : Option (BitVec 16)
  clampTimeout : Option (BitVec 16)
  liftTimeout : Option (BitVec 16)
  topUpInterval : Option (BitVec 16)
  waitDelay : Option (BitVec 16)
  feedTimeout : Option Byte
  readTimeout : Option (BitVec 16)
  loadWaitTimeout : Option (BitVec 16)
  loadWaitPolicy : Option Byte
deriving DecidableEq, Repr

/-- The fields of SET STATION (Table 10-4). -/
structure StationFields where
  station : Byte
  kind : Byte
  group : Option Byte
  faultMode : Byte
  policy : Byte
  p1 : BitVec 16
  p2 : BitVec 16
  finalGauge : Bool
deriving DecidableEq, Repr

/-- One cam point as CAM WRITE carries it (R128, R170). -/
structure PointFields where
  position : BitVec 32
  stroke : Byte
  action : Byte
  k : Option Byte
  level : Option Bool
deriving DecidableEq, Repr

/-- The optional block of PALLET PLACE (R19). -/
structure BlockFields where
  serial : List Byte
  variant : Byte
  disposition : Byte
deriving DecidableEq, Repr

/-- The commands. -/
inductive Instr where
  | ident (tag : Byte)
  | queryStatus (tag : Byte)
  | queryStation (tag station : Byte)
  | queryPallet (tag id : Byte)
  | queryMap (tag : Byte)
  | queryQueue (tag : Byte)
  | setLine (tag : Byte) (fields : LineFields)
  | setStation (tag : Byte) (fields : StationFields)
  | setRoute (tag route : Byte) (programs : List Byte)
  | camWrite (tag bank start : Byte) (points : List PointFields)
  | camArm (tag bank : Byte)
  | camDisarm (tag bank : Byte)
  | palletEnrolTail (tag id : Byte)
  | palletEnrolLoad (tag id : Byte)
  | palletPlace (tag id position : Byte) (block : Option BlockFields)
  | palletUnplace (tag position : Byte)
  | palletAdmit (tag id : Byte) (resetCount : Bool)
  | palletWithdraw (tag id : Byte)
  | palletRetire (tag id : Byte)
  | blockAssign (tag : Byte) (serial : List Byte) (variant : Byte)
  | blockEmpty (tag : Byte)
  | dispose (tag id disposition : Byte)
  | stationOut (tag station : Byte)
  | stationIn (tag station : Byte)
  | faultClearRetry (tag station : Byte)
  | faultClearAbandon (tag station : Byte)
  | run (tag : Byte)
  | hold (tag : Byte)
  | stop (tag : Byte)
  | recoverForward (tag : Byte)
  | recoverBackward (tag : Byte)
  | trial (tag bank : Byte)
  | reportMask (tag : Byte) (event trace : Bool)
  | echo (tag : Byte) (payload : List Byte)
  | restart (tag : Byte)
  | unknownRequest (tag kind : Byte) (payload : List Byte)
  | frameReceived (bytes : List Byte)
  | frameGap
  | framingError
  | linkBreak
  | breakEnd
  | transmitDone
  | powerOnReset (rate1 rate0 : Bool)
  | rstAssert
  | driveFeedbackReceived (bytes : List Byte)
  | motionTick
  | settleTimeout
  | ringScan
  | ringFrameReceived (bytes : List Byte)
  | stage1Expiry (station : Nat)
  | stage2Expiry (station : Nat)
  | indexStart
  | phaseTimeout
  | liftTimeout
  | clampStagger
  | pulseEnd (channel : ChannelId)
  | positionRequestTimeout (request : RequestId)
  | topup
  | topupStagger
  | waiting
  | feedStart
  | feedTimeout
  | readTimeout
  | loadWaitExpired
  | frameAbandonLength (byte : Byte)
deriving DecidableEq, Repr

end Sys2Proof
end

