-- ==== Sys2Proof/WellFormed.lean ====
section
/-! DEFINITION. Which commands a sender can put on the part's lines: what a frame can carry (R167, R170,
R183) and what a station, channel or request can name (R43, R95, R105). The meanings are total: a command
that fails these checks still has an effect, but no wire carries it. -/

namespace Sys2Proof

/-- A payload fits a frame (R167). -/
def payloadFits (n : Nat) : Bool := n ≤ Config.maxPayload

/-- Bytes of an optional field: its presence byte and the field (R170). -/
def optionBytes {α : Type} (width : Nat) : Option α → Nat
  | none => 1
  | some _ => 1 + width

/-- Bytes of one cam point of CAM WRITE, 8 to 10 (R170). -/
def PointFields.bytes (p : PointFields) : Nat := 6 + optionBytes 1 p.k + optionBytes 1 p.level

/-- Bytes of the optional block of PALLET PLACE (R170). -/
def blockBytes : Option BlockFields → Nat
  | none => 1
  | some b => 1 + (1 + b.serial.length) + 2

/-- A station number (R43). -/
def stationOk (n : Nat) : Bool := 1 ≤ n && n ≤ Config.maxStations

/-- A channel of the largest line (R95). -/
def ChannelId.ok : ChannelId → Bool
  | .locator p => p ≤ Config.maxStations + 1
  | .clamp s => stationOk s
  | .lift => true

/-- A position request of the largest line (R105). -/
def RequestId.ok : RequestId → Bool
  | .reclamp s => stationOk s
  | .seatLoad => true
  | .releaseLoad => true

/-- The command can be sent. -/
def Instr.wellFormed : Instr → Bool
  | .ident _ => true
  | .queryStatus _ => true
  | .queryStation _ _ => true
  | .queryPallet _ _ => true
  | .queryMap _ => true
  | .queryQueue _ => true
  | .setLine _ _ => true
  | .setStation _ _ => true
  | .setRoute _ _ programs => payloadFits (2 + programs.length)
  | .camWrite _ _ _ points => payloadFits (3 + (points.map PointFields.bytes).sum)
  | .camArm _ _ => true
  | .camDisarm _ _ => true
  | .palletEnrolTail _ _ => true
  | .palletEnrolLoad _ _ => true
  | .palletPlace _ _ _ block => payloadFits (2 + blockBytes block)
  | .palletUnplace _ _ => true
  | .palletAdmit _ _ _ => true
  | .palletWithdraw _ _ => true
  | .palletRetire _ _ => true
  | .blockAssign _ serial _ => payloadFits (2 + serial.length)
  | .blockEmpty _ => true
  | .dispose _ _ _ => true
  | .stationOut _ _ => true
  | .stationIn _ _ => true
  | .faultClearRetry _ _ => true
  | .faultClearAbandon _ _ => true
  | .run _ => true
  | .hold _ => true
  | .stop _ => true
  | .recoverForward _ => true
  | .recoverBackward _ => true
  | .trial _ _ => true
  | .reportMask _ _ _ => true
  | .echo _ payload => payloadFits payload.length
  | .restart _ => true
  | .unknownRequest _ kind payload => 0x21 ≤ kind.toNat && kind.toNat ≤ 0x3F && payloadFits payload.length
  | .frameReceived bytes => bytes.length ≤ 6 + Config.maxPayload
  | .frameGap => true
  | .framingError => true
  | .linkBreak => true
  | .breakEnd => true
  | .transmitDone => true
  | .powerOnReset _ _ => true
  | .rstAssert => true
  | .driveFeedbackReceived bytes => bytes.length == 8
  | .motionTick => true
  | .settleTimeout => true
  | .ringScan => true
  | .ringFrameReceived bytes => bytes.length ≤ 4 + 8 * (Config.maxStations + 3) + 2
  | .stage1Expiry station => stationOk station
  | .stage2Expiry station => stationOk station
  | .indexStart => true
  | .phaseTimeout => true
  | .liftTimeout => true
  | .clampStagger => true
  | .pulseEnd channel => channel.ok
  | .positionRequestTimeout request => request.ok
  | .topup => true
  | .topupStagger => true
  | .waiting => true
  | .feedStart => true
  | .feedTimeout => true
  | .readTimeout => true
  | .loadWaitExpired => true
  | .frameAbandonLength byte => Config.maxPayload < byte.toNat

end Sys2Proof
end

