-- ==== Sys2Proof/Machine/Types.lean ====
section
/-! DEFINITION. The names and records of the manual, block by block: every enumeration in the order of the
table or list that defines it (R170 numbers them so), and every record with the fields of its table. -/

namespace Sys2Proof.Machine

/-! ## Pallet Register and route table (chapters 1 and 2) -/

/-- The verdict on a block (Table 2-1). -/
inductive Disposition where
  | good | suspect | reject
deriving DecidableEq, Repr

/-- Results of a log entry (Table 2-2). -/
inductive LogResult where
  | done | pass | fail | skipped | timedOut | failed | interrupted
deriving DecidableEq, Repr

/-- One entry of the operation log (R27). -/
structure LogEntry where
  station : Nat
  program : Nat
  result : LogResult
deriving DecidableEq, Repr

/-- The block record (Table 2-1). -/
structure Block where
  serial : List Byte
  variant : Nat
  disposition : Disposition
  lock : Bool
  log : List LogEntry
deriving DecidableEq, Repr

/-- The pallet record (Table 1-4), less its location, which `State.location` reads from the places. -/
structure Pallet where
  id : Nat
  cycles : Nat
  withdraw : Bool
  unverified : Bool
  transit : Bool
  block : Option Block
deriving DecidableEq, Repr

/-- Where a pallet is (Table 1-4). -/
inductive Location where
  | line (p : Nat)
  | queued (k : Nat)
  | offline
deriving DecidableEq, Repr

/-- Content of a map slot (R6). -/
inductive Slot where
  | empty
  | pallet (id : Nat)
  | foreign (readId : Nat)
deriving DecidableEq, Repr

/-- The unload watch (R39). -/
inductive Watch where
  | idle | expecting | present | phantom | deferred
deriving DecidableEq, Repr

/-- The load disagreements (R38). -/
inductive Disagreement where
  | phantom | missing
deriving DecidableEq, Repr

/-- The Pallet Register. -/
structure Prg where
  records : List Pallet
  map : List Slot
  queue : List Nat
  offline : List Nat
  indexCount : Nat
  openIndex : Bool
  capacity : Nat
  inspectionLimit : Nat
  watch : Watch
  disagreement : Option Disagreement
deriving DecidableEq, Repr

/-! ## Index Sequencer (chapters 3 and 9) -/

/-- Line states (R43). -/
inductive Line where
  | unconfigured | held | running | halted
deriving DecidableEq, Repr

/-- Phases (R43). -/
inductive Phase where
  | wait | release | withdraw | lift | advance | lower | locate | clamp | verify | returning
deriving DecidableEq, Repr

/-- Reasons of LINE STATE (R44). -/
inductive LineReason where
  | configured | run | hold | break | stop | alarm | indexEnd | halt | recover | restart
deriving DecidableEq, Repr

/-- Halt causes (R64). -/
inductive Cause where
  | stop | restart | following | settle | driveLoss | driveFault | camCheck | phaseTimeout
  | map | nodeLoss | seatLoss | toolMoved
deriving DecidableEq, Repr

/-- The halt record (R65); `stopping` is the motion STOPPING. -/
structure HaltRecord where
  cause : Cause
  phase : Phase
  bar : Int
  stopping : Bool
  positions : List Nat
  secondary : List (Cause × List Nat)
  indexCount : Nat
deriving DecidableEq, Repr

/-- Course of the open index (R159). -/
inductive Course where
  | forward | backward
deriving DecidableEq, Repr

/-- The Index Sequencer. -/
structure Isq where
  line : Line
  phase : Option Phase
  stations : Option Nat
  holdPending : Bool
  released : Bool
  withdrawn : Bool
  lifted : Bool
  waitTimer : Option Nat
  waitDelay : Nat
  haltRecord : Option HaltRecord
  course : Course
  seatEdit : Bool
  haltCount : Nat
  recovered : Bool
  indexStart : Nat
  shiftTaken : Bool
deriving DecidableEq, Repr

/-- Checks of the seat check of RUN (R47). -/
inductive SeatCheck where
  | occupancy | locators | clamps | node
deriving DecidableEq, Repr

/-! ## Station units (chapter 4) -/

/-- Station kinds (Table 4-1). -/
inductive Kind where
  | machine | gauge | idle
deriving DecidableEq, Repr

/-- Clamp groups (Table 4-1). -/
inductive Group where
  | a | b
deriving DecidableEq, Repr

/-- Fault modes (Table 4-1). -/
inductive FaultMode where
  | edge | level
deriving DecidableEq, Repr

/-- Overrun policies (Table 4-1). -/
inductive OverrunPolicy where
  | hold | abandon
deriving DecidableEq, Repr

/-- Station configuration (Table 4-1). -/
structure StationConfig where
  kind : Kind
  group : Option Group
  faultMode : FaultMode
  policy : OverrunPolicy
  p1 : Nat
  p2 : Nat
  finalGauge : Bool
deriving DecidableEq, Repr

/-- Station states (R73). -/
inductive UnitState where
  | vacant | seated | working | late | abandoning | complete | faulted
deriving DecidableEq, Repr

/-- The operation record (R74); `interruptTaken` is the model's own (log 28). -/
structure Operation where
  pallet : Nat
  program : Nat
  start : Nat
  doneSeenOff : Bool
  result : Option LogResult
  interruptTaken : Bool
deriving DecidableEq, Repr

/-- Station fault causes (R74). -/
inductive FaultCause where
  | fltInput | overrun | clampLoss | nodeLoss | toolMoved
deriving DecidableEq, Repr

/-- What a faulted unit returns to (R74). -/
inductive Resume where
  | vacant | complete | decision | operation | abandon
deriving DecidableEq, Repr

/-- The fault record (R74). -/
structure FaultRecord where
  cause : FaultCause
  clampLost : Bool
  resume : Resume
  doneWhileFaulted : Bool
  reclamp : Bool
deriving DecidableEq, Repr

/-- How a fault was cleared, in STATION CLEARED (R88, R93). -/
inductive ClearAction where
  | retry | abandon | restart
deriving DecidableEq, Repr

/-- One station unit (R73 to R75, R80, R86, R91). -/
structure StationUnit where
  config : StationConfig
  state : UnitState
  inService : Bool
  clampWatch : Bool
  operation : Option Operation
  fault : Option FaultRecord
  start : Bool
  restartWait : Bool
  stage1 : Option Nat
  stage2 : Option Nat
deriving DecidableEq, Repr

/-! ## Seat Controller (chapter 5) -/

/-- The two sides of a valve: `engage` is LOCATE, CLAMP, RAISE and `disengage` is UNLOCATE, UNCLAMP,
LOWER (R95). -/
inductive Side where
  | engage | disengage
deriving DecidableEq, Repr

/-- Who asks for a pulse (R96). -/
inductive Requester where
  | phase (ph : Phase)
  | lift
  | position
  | emptyFixture
  | placedPallet
  | topUp (g : Group)
deriving DecidableEq, Repr

/-- A pulse in flight with its timer, and the requests it serves (R95, R96). -/
structure Pulse where
  side : Side
  timer : Nat
  requesters : List Requester
deriving DecidableEq, Repr

/-- A pulse waiting for the pulse in flight to end (R95). -/
structure PendingPulse where
  side : Side
  requesters : List Requester
deriving DecidableEq, Repr

/-- A valve channel (R95). -/
structure Channel where
  pulse : Option Pulse
  commanded : Option Side
  pending : Option PendingPulse
deriving DecidableEq, Repr

/-- Readings of a sensor pair (R97). -/
inductive Reading where
  | first | second | between | conflict
deriving DecidableEq, Repr

/-- Lift states (R102). -/
inductive LiftState where
  | up | down | rising | falling | unknown
deriving DecidableEq, Repr

/-- Lift movements (R102). -/
inductive LiftMove where
  | raise | lower
deriving DecidableEq, Repr

/-- The open lift movement with its lift timer (R102). -/
structure Movement where
  move : LiftMove
  timer : Nat
deriving DecidableEq, Repr

/-- The open phase command with its set and phase timer (R99). -/
structure PhaseCommand where
  phase : Phase
  positions : List Nat
  timer : Nat
deriving DecidableEq, Repr

/-- The stagger wait of a CLAMP command and the group B stations it will request (R101). -/
structure ClampWait where
  timer : Nat
  stations : List Nat
deriving DecidableEq, Repr

/-- An open position request with its timer (R105). -/
structure PositionRequest where
  id : RequestId
  timer : Nat
deriving DecidableEq, Repr

/-- Where a top-up stands (R108). -/
inductive TopUp where
  | idle
  | stagger (timer : Nat)
  | groupB
deriving DecidableEq, Repr

/-- Settings of SCT (R98): times in ms, the interval in s. -/
structure SeatSettings where
  pulse : Nat
  stagger : Nat
  release : Nat
  locate : Nat
  clamp : Nat
  lift : Nat
  topUp : Nat
deriving DecidableEq, Repr

/-- The Seat Controller. -/
structure Sct where
  locators : List Channel
  clamps : List Channel
  lift : Channel
  command : Option PhaseCommand
  clampWait : Option ClampWait
  liftState : LiftState
  movement : Option Movement
  requests : List PositionRequest
  held : Bool
  topUpTimer : Option Nat
  topUp : TopUp
  settings : SeatSettings
deriving DecidableEq, Repr

/-! ## Motion Generator (chapter 6) -/

/-- Drive states (R113). -/
inductive DriveState where
  | lost | fault | ready | notReady
deriving DecidableEq, Repr

/-- Motion states (chapter 6). -/
inductive Motion where
  | atRest | moving | settling | stopping | trial
deriving DecidableEq, Repr

/-- Stroke directions (R117, R128). -/
inductive Direction where
  | advance | returning
deriving DecidableEq, Repr

/-- The stroke plan record (R117). -/
structure Plan where
  direction : Direction
  origin : Int
  target : Int
  distance : Nat
  n : Nat
  peak : Nat
  cruise : Nat
  remainder : Nat
  remainderTick : Option Nat
  total : Nat
  sent : Nat
deriving DecidableEq, Repr

/-- How a trial ends (R140). -/
inductive TrialEnding where
  | completed | stopped | restart
deriving DecidableEq, Repr

/-- A quick stop in hand (R123): its direction, the ticks it has sent, whether it is a trial's (and the
trial's ending), and whether the enable goes off at its end (R127). -/
structure QuickStop where
  direction : Direction
  ticks : Nat
  trial : Option TrialEnding
  enableOff : Bool
deriving DecidableEq, Repr

/-- How a stroke ended, in STROKE END (R121, R123, R124). -/
inductive StrokeOutcome where
  | settled | stopped | ended
deriving DecidableEq, Repr

/-- The fields of a feedback frame that is kept (R112). -/
structure Feedback where
  ready : Bool
  fault : Bool
  position : Int
deriving DecidableEq, Repr

/-- A setpoint frame (R112). -/
structure Setpoint where
  sequence : Nat
  enable : Bool
  position : Int
deriving DecidableEq, Repr

/-- Settings of MGN (R116). -/
structure MotionSettings where
  stroke : Nat
  velocity : Nat
  acceleration : Nat
  quickStop : Nat
  errorLimit : Nat
  persistence : Nat
  band : Nat
  settle : Nat
deriving DecidableEq, Repr

/-- The Motion Generator. -/
structure Mgn where
  drive : DriveState
  missed : Nat
  enable : Bool
  commanded : Int
  velocity : Nat
  lastFeedback : Option Int
  received : Option Feedback
  motion : Motion
  plan : Option Plan
  quick : Option QuickStop
  errorCount : Nat
  peakError : Nat
  settleTimer : Option Nat
  settleTime : Nat
  settings : MotionSettings
  sequence : Nat
  sent : Option Setpoint
deriving DecidableEq, Repr

/-! ## Cam Unit (chapter 7) -/

/-- The two cam banks (R129). -/
inductive BankId where
  | a | b
deriving DecidableEq, Repr

/-- Actions of a cam point (Table 7-1); the expected level of CHECK is part of it. -/
inductive CamAction where
  | auxOn (k : Nat)
  | auxOff (k : Nat)
  | check (k : Nat) (expected : Bool)
  | mark
deriving DecidableEq, Repr

/-- A cam point (Table 7-1). -/
structure CamPoint where
  position : Nat
  stroke : Direction
  action : CamAction
deriving DecidableEq, Repr

/-- Bank states (R129). -/
inductive BankState where
  | open_ | armed | active
deriving DecidableEq, Repr

/-- A cam bank (R129). -/
structure Bank where
  state : BankState
  points : List CamPoint
  underTrial : Bool
deriving DecidableEq, Repr

/-- Faults of a bank that is not valid (R131). -/
inductive CamFault where
  | aboveS | order
deriving DecidableEq, Repr

/-- The stroke record (R135); `live` is the mode LIVE. -/
structure StrokeRecord where
  direction : Direction
  live : Bool
  bank : Option BankId
  previous : Option Int
  fired : List Nat
deriving DecidableEq, Repr

/-- Outcomes of CAM TRIAL (R140). -/
inductive TrialOutcome where
  | wouldApply | checkPass | checkFail | notEvaluated
deriving DecidableEq, Repr

/-- The trial record (R139), with the points fired in either stroke of the trial (R140). -/
structure TrialRecord where
  bank : BankId
  wouldApply : Nat
  checkPass : Nat
  checkFail : Nat
  notEvaluated : Nat
  fired : List Nat
deriving DecidableEq, Repr

/-- The Cam Unit. -/
structure Cam where
  bankA : Bank
  bankB : Bank
  stroke : Option StrokeRecord
  trial : Option TrialRecord
  aux : List Bool
deriving DecidableEq, Repr

/-! ## Feed Unit (chapter 8) -/

/-- Position-0 states (R141). -/
inductive LoadState where
  | empty | feeding | seating | reading | awaitingBlock | ready | foreign
deriving DecidableEq, Repr

/-- Feed modes (R143). -/
inductive FeedMode where
  | gate | inPlace
deriving DecidableEq, Repr

/-- Load-wait policies (R142). -/
inductive LoadPolicy where
  | wait | runEmpty
deriving DecidableEq, Repr

/-- Stages of FEED FAULT (R149). -/
inductive FeedStage where
  | locator | arrival | seating | read | resolve
deriving DecidableEq, Repr

/-- Reasons of FEED FAULT (R149), in the order they first appear there. -/
inductive FeedReason where
  | timeout | nodeLoss | presentLost | noExpected | slotTaken
deriving DecidableEq, Repr

/-- Reasons of NOREAD (R146). -/
inductive NoreadReason where
  | digit | check | range | timeout
deriving DecidableEq, Repr

/-- The result of a read (R146). -/
inductive ReadResult where
  | id (n : Nat)
  | noread (r : NoreadReason)
deriving DecidableEq, Repr

/-- Settings of FDU (R142): s, ms, s. -/
structure FeedSettings where
  feed : Nat
  read : Nat
  loadWait : Nat
  policy : LoadPolicy
deriving DecidableEq, Repr

/-- The Feed Unit. -/
structure Fdu where
  state : LoadState
  expected : Option Nat
  mode : Option FeedMode
  feedTimer : Option Nat
  readTimer : Option Nat
  loadWait : Option Nat
  loadHold : Bool
  gate : Bool
  read : Bool
  settings : FeedSettings
deriving DecidableEq, Repr

/-! ## Ring Controller (chapter 11) -/

/-- Node states (R179). -/
inductive NodeState where
  | pending | answering | lost
deriving DecidableEq, Repr

/-- The input image of a node: the levels and fields of Table 11-1. A node has the signals of its kind; the
others stay off. -/
structure InputImage where
  home : Bool
  done : Bool
  pass : Bool
  flt : Bool
  clamped : Bool
  unclamped : Bool
  locIn : Bool
  locOut : Bool
  present : Bool
  block : Bool
  toggle : Bool
  d2 : Nat
  d1 : Nat
  d0 : Nat
  c : Nat
  liftUp : Bool
  liftDown : Bool
  head : Bool
  spurClear : Bool
  aux : List Bool
deriving DecidableEq, Repr

/-- The output image of a node (Table 11-1). -/
structure OutputImage where
  start : Bool
  program : Nat
  clamp : Bool
  unclamp : Bool
  locate : Bool
  unlocate : Bool
  read : Bool
  gate : Bool
  raise : Bool
  lower : Bool
  aux : List Bool
deriving DecidableEq, Repr

/-- A node of the scan list (R179); `scansMissed` counts to 65,535 for NODE RETURNED (R181). -/
structure Node where
  addr : Nat
  state : NodeState
  image : Option InputImage
  missed : Nat
  scansMissed : Nat
deriving DecidableEq, Repr

/-- The scan in flight: its sequence and the output image it carries to each node (R179, R183). -/
structure Scan where
  sequence : Nat
  carried : List (Nat × OutputImage)
deriving DecidableEq, Repr

/-- The Ring Controller. -/
structure Rgc where
  nodes : List Node
  scan : Option Scan
  sequence : Nat
deriving DecidableEq, Repr

/-! ## Reports and replies (chapter 10) -/

/-- Report classes (R175). -/
inductive ReportClass where
  | alarm | event | trace
deriving DecidableEq, Repr

/-- Causes of RESET (R165, R178). -/
inductive ResetCause where
  | powerOn | restart
deriving DecidableEq, Repr

/-- Destination of a discharge (R14). -/
inductive Destination where
  | queue (ordinal : Nat)
  | spur
deriving DecidableEq, Repr

/-- Diversion reasons (R14). -/
inductive Diversion where
  | withdrawn | inspection | both
deriving DecidableEq, Repr

/-- Reasons of LOG DISCARDED (R29). -/
inductive DiscardReason where
  | noBlock | locked | duplicate
deriving DecidableEq, Repr

/-- Reasons of STATION ABANDONING (R81, R90). -/
inductive AbandonReason where
  | overrun | fault
deriving DecidableEq, Repr

/-- What keeps readiness condition 2 false (R54). -/
inductive LoadDetail where
  | state (l : LoadState)
  | disagreement (d : Disagreement)
  | nodeLost
deriving DecidableEq, Repr

/-- What keeps readiness condition 3 false (R54). -/
inductive UnloadDetail where
  | watch (w : Watch)
  | nodeLost
deriving DecidableEq, Repr

/-- What keeps readiness condition 5 false (R54). -/
inductive BarDetail where
  | notHome | liftNotDown | driveNotReady | lineNodeLost
deriving DecidableEq, Repr

/-- A false readiness condition as WAITING lists it, with its position where that is not position 0 (R54). -/
inductive Condition where
  | stations (l : List (Nat × UnitState))
  | load (d : LoadDetail)
  | unload (position : Nat) (d : UnloadDetail)
  | room (position : Nat) (spur : Bool)
  | bar (l : List BarDetail)
  | cams
deriving DecidableEq, Repr

/-- The reports of Table 10-6 with their own fields in the order of their rules. -/
inductive Report where
  | reset (cause : ResetCause) (rate : Nat)
  | overflow (alarms events traces first : Nat)
  | lineState (line : Line) (phase : Option Phase) (reason : LineReason)
  | phase (ph : Phase) (indexCount : Nat)
  | waiting (conditions : List Condition)
  | indexDone (indexCount elapsed : Nat) (recovered : Bool)
  | seatLost (position id : Nat)
  | halted (record : HaltRecord)
  | haltAdded (cause : Cause) (positions : List Nat) (recorded : Bool)
  | haltSettled (cause : Cause) (phase : Phase) (bar : Int) (secondary : List (Cause × List Nat))
  | recovered (indexCount : Nat) (course : Course) (shift : Bool) (halts : Nat)
  | palletDischarged (id : Nat) (dest : Destination) (cycles : Nat) (reason : Option Diversion) (unverified : Bool)
  | logDiscarded (station program : Nat) (result : LogResult) (reason : DiscardReason)
  | dispositionChanged (id : Nat) (serial : List Byte) (station : Nat) (result : LogResult)
      (old new : Disposition)
  | blockCarried (id : Nat) (serial : List Byte) (disposition : Disposition) (lock : Bool) (entries : Nat)
  | phantomLoad (id : Nat)
  | phantomUnload (position : Nat) (id : Option Nat) (indexCount : Nat)
  | missingBlock (id : Nat) (serial : List Byte)
  | blockAgreed (position : Nat)
  | blockOut (id cycles : Nat) (unverified : Bool) (block : Block)
  | operationStart (station id : Nat) (serial : List Byte) (program : Nat)
  | operationEnd (station id program : Nat) (result : LogResult) (elapsed : Nat) (taken : Bool)
  | unexpectedDone (station : Nat) (state : UnitState)
  | late (station id program elapsed : Nat)
  | stationAbandoning (station id program : Nat) (reason : AbandonReason)
  | stationFault (station : Nat) (cause : FaultCause) (state : UnitState) (id program : Option Nat) (added : Bool)
  | stationCleared (station : Nat) (action : ClearAction) (cause : FaultCause) (state : UnitState)
  | stationService (station : Nat) (inService : Bool)
  | liftUnknown (up down : Bool) (move : Option LiftMove)
  | driveState (old new : DriveState) (commanded : Int) (feedback : Option Int)
  | strokePlan (plan : Plan)
  | strokeEnd (direction : Direction) (outcome : StrokeOutcome) (ticks : Nat) (commanded : Int)
      (feedback : Option Int) (settling peak : Nat)
  | bankSwapped (bank : BankId) (count : Nat) (opened : Option BankId)
  | camMark (bank : BankId) (index : Nat) (direction : Direction) (position : Nat) (measured : Int)
  | camCheckFailed (bank : BankId) (index : Nat) (direction : Direction) (position k : Nat)
      (expected seen : Bool) (measured : Int)
  | camTrial (bank : BankId) (index : Nat) (direction : Direction) (position : Nat) (action : CamAction)
      (measured : Option Int) (outcome : TrialOutcome) (seen : Option Bool) (lineLost : Bool)
  | trialDone (bank : BankId) (ending : TrialEnding) (wouldApply checkPass checkFail notEvaluated : Nat)
  | loadState (old new : LoadState) (slot : Slot) (hold : Bool)
  | feedStart (mode : FeedMode) (expected : Option Nat)
  | feedMatched (id : Nat)
  | feedNoread (id : Nat) (reason : NoreadReason)
  | feedReordered (id ordinal : Nat) (expected : Option Nat)
  | feedForeign (id : Nat) (expected : Option Nat)
  | feedConflict (id : Nat) (location : Location) (expected : Option Nat)
  | feedFault (stage : FeedStage) (reason : FeedReason) (expected : Option Nat) (present : Bool)
  | foreignRemoved (id : Nat)
  | loadWaitExpired (id : Nat) (policy : LoadPolicy)
  | feedAborted (stage : FeedStage) (expected : Option Nat)
  | nodeLost (addr : Nat)
  | nodeReturned (addr missed : Nat)
deriving DecidableEq, Repr

/-- A report in the queue with its header counts (R175). -/
structure QueuedReport where
  report : Report
  time : Nat
  indexCount : Nat
deriving DecidableEq, Repr

/-- Refusal reasons (Table 10-5). -/
inductive Reason where
  | unknownKind | badLength | badField | wrongState | locked | noBlock | unknownPallet | duplicate
  | tableFull | queueFull | bankActive | bankPending | camInvalid | camRange | routeConflict
  | stillActive | notFaulted | mapMismatch | notHome | drive | noCams | notHalted | direction
deriving DecidableEq, Repr

/-- What a request is answered (Table 10-2), less BUSY, which CLU gives of itself. The bytes are the reply
content or the refusal's detail. -/
inductive Answer where
  | ok (content : List Byte)
  | accepted (content : List Byte)
  | refused (reason : Reason) (detail : List Byte)
deriving DecidableEq, Repr

/-- A request frame (Table 10-1). -/
structure Frame where
  kind : Byte
  tag : Byte
  payload : List Byte
deriving DecidableEq, Repr

/-- A reply to a request of the given kind and tag (R169). -/
structure Reply where
  kind : Byte
  tag : Byte
  answer : Answer
deriving DecidableEq, Repr

/-- A BUSY reply (R171). -/
structure BusyReply where
  kind : Byte
  tag : Byte
deriving DecidableEq, Repr

/-! ## Cell Link Unit (chapter 10) -/

/-- Framer states with what each holds (R167). -/
inductive Framer where
  | hunt
  | length
  | kind (len : Nat)
  | tag (len : Nat) (kind : Byte)
  | payload (len : Nat) (kind tag : Byte) (got : List Byte)
  | crcHigh (len : Nat) (kind tag : Byte) (got : List Byte)
  | crcLow (len : Nat) (kind tag : Byte) (got : List Byte) (high : Byte)
deriving DecidableEq, Repr

/-- The overflow record (R176): pending when `first` holds the time of the first loss. -/
structure Overflow where
  alarms : Nat
  events : Nat
  traces : Nat
  first : Option Nat
deriving DecidableEq, Repr

/-- The seven link counts (R177). -/
structure LinkCounts where
  gap : Nat
  length : Nat
  crc : Nat
  framing : Nat
  kind : Nat
  busy : Nat
  dropped : Nat
deriving DecidableEq, Repr

/-- The Cell Link Unit. -/
structure Clu where
  framer : Framer
  breakSeen : Bool
  requestQueue : List Frame
  replySlot : Option Reply
  busyList : List BusyReply
  busyAhead : Nat
  reports : List QueuedReport
  overflow : Overflow
  transmitting : Option (List Byte)
  eventOn : Bool
  traceOn : Bool
  rate : Nat
  counts : LinkCounts
deriving DecidableEq, Repr

end Sys2Proof.Machine
end

