-- ==== Sys2Proof/Machine/State.lean ====
section
/-! DEFINITION. The state of the part, block by block, the reasons a step can stop, and the state after a
power-on reset. -/

namespace Sys2Proof.Machine

/-- The state: every block of Table 1-1, the time base, the RST pin's hold, and the model's own queue of
commands that wait, first in first out. -/
structure State where
  /-- RST is low (R182). -/
  inReset : Bool
  /-- Time base count (R175, R178). -/
  timeBase : Nat
  prg : Prg
  /-- 8 routes of 24 programs (R32). -/
  rtb : List (List Nat)
  isq : Isq
  /-- Units of stations 1..24 in order (R69). -/
  stu : List StationUnit
  sct : Sct
  mgn : Mgn
  cam : Cam
  fdu : Fdu
  rgc : Rgc
  clu : Clu
  /-- The model's queue of commands. -/
  pending : List Instr
deriving DecidableEq, Repr

/-- The part stops on no command: the manual gives every event an effect. No command raises a fault. -/
inductive Fault where
deriving DecidableEq, Repr

/-- Refusals. `notModelled` is for a dispatch arm without a meaning; every arm has one, so no command raises
it. It is safe: a step that stops lets no claim about a next state through. -/
inductive Refusal where
  | notModelled (mnemonic : String)
deriving DecidableEq, Repr

/-- The default configuration of a station (Table 4-1). -/
def StationConfig.initial : StationConfig :=
  { kind := .idle, group := none, faultMode := .edge, policy := .hold, p1 := 600, p2 := 300, finalGauge := false }

/-- A unit after power-on reset (R94) and above N (R72). -/
def StationUnit.initial : StationUnit :=
  { config := StationConfig.initial, state := .vacant, inService := true, clampWatch := false, operation := none,
    fault := none, start := false, restartWait := false, stage1 := none, stage2 := none }

/-- A channel that has driven nothing (R111). -/
def Channel.initial : Channel := { pulse := none, commanded := none, pending := none }

/-- A node that joins the scan list (R179). -/
def Node.initial (addr : Nat) : Node :=
  { addr := addr, state := .pending, image := none, missed := 0, scansMissed := 0 }

/-- An empty OPEN bank (R129). -/
def Bank.initial : Bank := { state := .open_, points := [], underTrial := false }

/-- The whole part after a power-on reset with the given strap-selected rate (R25, R32, R39, R68, R94, R111,
R126, R129, R138, R141, R142, R159, R178, R179), with the given report queue. -/
def State.powerOn (rate : Nat) (reports : List QueuedReport) : State :=
  { inReset := false
    timeBase := 0
    prg :=
      { records := [], map := [], queue := [], offline := [], indexCount := 0, openIndex := false,
        capacity := Config.defaultCapacity, inspectionLimit := 0, watch := .idle, disagreement := none }
    rtb := List.replicate Config.routes (List.replicate Config.maxStations 0)
    isq :=
      { line := .unconfigured, phase := none, stations := none, holdPending := false, released := false,
        withdrawn := false, lifted := false, waitTimer := none, waitDelay := 20, haltRecord := none,
        course := .forward, seatEdit := false, haltCount := 0, recovered := false, indexStart := 0,
        shiftTaken := false }
    stu := List.replicate Config.maxStations StationUnit.initial
    sct :=
      { locators := [], clamps := [], lift := Channel.initial, command := none, clampWait := none,
        liftState := .unknown, movement := none, requests := [], held := false, topUpTimer := none,
        topUp := .idle,
        settings :=
          { pulse := 150, stagger := 300, release := 3000, locate := 3000, clamp := 3000, lift := 3000, topUp := 60 } }
    mgn :=
      { drive := .lost, missed := Config.lossCount, enable := false, commanded := 0, velocity := 0,
        lastFeedback := none, received := none, motion := .atRest, plan := none, quick := none, errorCount := 0,
        peakError := 0, settleTimer := none, settleTime := 0,
        settings :=
          { stroke := 650000, velocity := 1000, acceleration := 5, quickStop := 10, errorLimit := 2000,
            persistence := 5, band := 50, settle := 200 },
        sequence := 0, sent := none }
    cam :=
      { bankA := Bank.initial, bankB := Bank.initial, stroke := none, trial := none, aux := List.replicate 8 false }
    fdu :=
      { state := .empty, expected := none, mode := none, feedTimer := none, readTimer := none, loadWait := none,
        loadHold := false, gate := false, read := false,
        settings := { feed := 10, read := 1000, loadWait := 30, policy := .wait } }
    rgc := { nodes := [Node.initial Config.lineNode], scan := none, sequence := 0 }
    clu :=
      { framer := .hunt, breakSeen := false, requestQueue := [], replySlot := none, busyList := [], busyAhead := 0,
        reports := reports, overflow := { alarms := 0, events := 0, traces := 0, first := none }, transmitting := none,
        eventOn := true, traceOn := true, rate := rate,
        counts := { gap := 0, length := 0, crc := 0, framing := 0, kind := 0, busy := 0, dropped := 0 } }
    pending := [] }

/-- The report queue after power-on reset: RESET with cause POWER_ON and the rate (R178). -/
def resetReports (rate : Nat) : List QueuedReport :=
  [{ report := .reset .powerOn rate, time := 0, indexCount := 0 }]

/-- The part right after a power-on reset with both strap pins low (log 3). -/
def State.reset : State := State.powerOn 0 (resetReports 0)

end Sys2Proof.Machine
end

