-- ==== Sys2Proof/Machine/Ops.lean ====
section
/-! DEFINITION. The shared operations below every block: changing one block of the state, reading the map,
the units, the channels and the images, byte order and the frame check (R168, R170), timers and counters (R2),
and handing a report to CLU (R175, R176). -/

namespace Sys2Proof.Machine

/-! ## Changing one block -/

/-- Change prg alone. -/
def State.modPrg (f : Prg → Prg) (s : State) : State := { s with prg := f s.prg }
/-- Change isq alone. -/
def State.modIsq (f : Isq → Isq) (s : State) : State := { s with isq := f s.isq }
/-- Change sct alone. -/
def State.modSct (f : Sct → Sct) (s : State) : State := { s with sct := f s.sct }
/-- Change mgn alone. -/
def State.modMgn (f : Mgn → Mgn) (s : State) : State := { s with mgn := f s.mgn }
/-- Change cam alone. -/
def State.modCam (f : Cam → Cam) (s : State) : State := { s with cam := f s.cam }
/-- Change fdu alone. -/
def State.modFdu (f : Fdu → Fdu) (s : State) : State := { s with fdu := f s.fdu }
/-- Change rgc alone. -/
def State.modRgc (f : Rgc → Rgc) (s : State) : State := { s with rgc := f s.rgc }
/-- Change clu alone. -/
def State.modClu (f : Clu → Clu) (s : State) : State := { s with clu := f s.clu }
/-- Change stu alone. -/
def State.modStu (f : List StationUnit → List StationUnit) (s : State) : State := { s with stu := f s.stu }
/-- Change rtb alone. -/
def State.modRtb (f : List (List Nat) → List (List Nat)) (s : State) : State := { s with rtb := f s.rtb }

/-! ## Counters and timers (R2) -/

/-- A saturating counter's step. -/
def satInc (limit n : Nat) : Nat := min (n + 1) limit

/-- A 32-bit wrapping counter's step (R11, R175). -/
def wrapInc (n : Nat) : Nat := (n + 1) % Config.wrap32

/-- A timer after one tick: a running count falls by one and stays at 0 until its expiry is taken (log 1). -/
def tickTimer (t : Option Nat) : Option Nat := t.map (· - 1)

/-- The count of a timer has run out. -/
def expired (t : Option Nat) : Bool := t == some 0

/-- A count limited to a range: below the range it is raised, above it lowered (log 39). -/
def clampTo (lo hi n : Nat) : Nat := max lo (min n hi)

/-- Ticks from one time base count to a later one, across the wrap. -/
def elapsedSince (start now : Nat) : Nat := (now + Config.wrap32 - start) % Config.wrap32

/-- `a` lies within `band` of `t`. -/
def within (band : Nat) (t a : Int) : Bool := (a - t).natAbs ≤ band

/-- A position limited to 0..S (R119). -/
def limitPosition (stroke : Nat) (p : Int) : Int := max 0 (min p stroke)

/-! ## Bytes (R170) and the frame check (R168) -/

/-- A whole number in one byte. -/
def u8 (n : Nat) : List Byte := [BitVec.ofNat 8 n]

/-- A whole number in two bytes, high byte first. -/
def u16 (n : Nat) : List Byte := [BitVec.ofNat 8 (n / 256), BitVec.ofNat 8 n]

/-- A whole number in four bytes, high byte first. -/
def u32 (n : Nat) : List Byte :=
  [BitVec.ofNat 8 (n / 16777216), BitVec.ofNat 8 (n / 65536), BitVec.ofNat 8 (n / 256), BitVec.ofNat 8 n]

/-- A signed number in four bytes, two's complement, high byte first. -/
def i32 (z : Int) : List Byte := u32 (z % (Config.wrap32 : Int)).toNat

/-- A flag or level. -/
def flag (b : Bool) : List Byte := if b then [1] else [0]

/-- An optional field: a presence byte and the field. -/
def opt {α : Type} (f : α → List Byte) : Option α → List Byte
  | none => [0]
  | some a => 1 :: f a

/-- A list: a count byte and the entries. -/
def listOf {α : Type} (f : α → List Byte) (l : List α) : List Byte := u8 l.length ++ l.flatMap f

/-- The number bytes spell, high byte first. -/
def beNat (l : List Byte) : Nat := l.foldl (fun n b => n * 256 + b.toNat) 0

/-- The signed number four bytes spell (R112). -/
def signed32 (n : Nat) : Int := if n < 2147483648 then n else (n : Int) - 4294967296

/-- Bit `i` of a byte. -/
def bit (b : Byte) (i : Nat) : Bool := b.getLsbD i

/-- Levels as the bits of one byte, the first in bit 0 (R183). -/
def bitsToByte : List Bool → Nat
  | [] => 0
  | b :: l => b.toNat + 2 * bitsToByte l

/-- One bit of the CRC with generator 1021h. -/
def crcShift (c : BitVec 16) : BitVec 16 :=
  if c.getLsbD 15 then (c <<< 1) ^^^ 0x1021#16 else c <<< 1

/-- One byte of the CRC, most significant bit first. -/
def crcByte (c : BitVec 16) (b : Byte) : BitVec 16 :=
  crcShift (crcShift (crcShift (crcShift (crcShift (crcShift (crcShift (crcShift
    (c ^^^ (b.setWidth 16 <<< 8)))))))))

/-- The 16-bit CRC with initial value FFFFh (R168). -/
def crc16 (l : List Byte) : BitVec 16 := l.foldl crcByte 0xFFFF#16

/-- The sum of the bytes modulo 256, for the checks of R112 and R183. -/
def byteSum (l : List Byte) : Nat := (l.map BitVec.toNat).sum % 256

/-- The last byte that makes a sum 0 modulo 256. -/
def checkByte (l : List Byte) : Byte := BitVec.ofNat 8 (256 - byteSum l)

/-- A frame of the cell link (Table 10-1). -/
def linkFrame (kind tag : Byte) (payload : List Byte) : List Byte :=
  let body := u8 payload.length ++ [kind, tag] ++ payload
  0xA5 :: (body ++ u16 (crc16 body).toNat)

/-! ## Sorted sets -/

/-- An id joins a set held in ascending order. -/
def insertAsc (n : Nat) : List Nat → List Nat
  | [] => [n]
  | m :: l => if n < m then n :: m :: l else if n = m then m :: l else m :: insertAsc n l

/-- A record joins the records, which are held in ascending order of id. -/
def insertRecord (r : Pallet) : List Pallet → List Pallet
  | [] => [r]
  | q :: l => if r.id < q.id then r :: q :: l else q :: insertRecord r l

/-! ## The line's positions -/

/-- N, 0 while it is absent. -/
def State.n (s : State) : Nat := s.isq.stations.getD 0

/-- Stations 1..N. -/
def State.stationList (s : State) : List Nat := (List.range s.n).map (· + 1)

/-- Positions 0..N+1; none in UNCONFIGURED. -/
def State.positionList (s : State) : List Nat :=
  match s.isq.stations with
  | none => []
  | some n => List.range (n + 2)

/-- Positions 1..N+1. -/
def State.workPositions (s : State) : List Nat := (List.range (s.n + 1)).map (· + 1)

/-! ## Register reads -/

/-- Content of slot p; EMPTY where the map has no slot. -/
def State.slot (s : State) (p : Nat) : Slot := (s.prg.map[p]?).getD .empty

/-- The pallet id in slot p. -/
def State.palletAt (s : State) (p : Nat) : Option Nat :=
  match s.slot p with
  | .pallet id => some id
  | _ => none

/-- The read id of a FOREIGN slot 0 (R6). -/
def State.foreignId (s : State) : Option Nat :=
  match s.slot 0 with
  | .foreign id => some id
  | _ => none

/-- The record of an id. -/
def State.record (s : State) (id : Nat) : Option Pallet := s.prg.records.find? (·.id == id)

/-- The block of the pallet in slot p. -/
def State.blockAt (s : State) (p : Nat) : Option Block :=
  (s.palletAt p).bind fun id => (s.record id).bind Pallet.block

/-- The ordinal of an id in the return queue, the head being 1 (R8). -/
def State.ordinal (s : State) (id : Nat) : Option Nat := (s.prg.queue.idxOf? id).map (· + 1)

/-- The location field of a record (Table 1-4), read from the places (R5; log 31). -/
def State.location (s : State) (id : Nat) : Location :=
  match s.prg.map.idxOf? (.pallet id) with
  | some p => .line p
  | none =>
    match s.ordinal id with
    | some k => .queued k
    | none => .offline

/-- The program route v gives station k (R32). -/
def State.program (s : State) (v k : Nat) : Nat := (((s.rtb[v]?).getD [])[k - 1]?).getD 0

/-! ## Units -/

/-- The unit of station k. -/
def State.unit (s : State) (k : Nat) : StationUnit := (s.stu[k - 1]?).getD StationUnit.initial

/-- Change the unit of station k, for k from 1. -/
def State.modUnit (k : Nat) (f : StationUnit → StationUnit) (s : State) : State :=
  match k with
  | 0 => s
  | j + 1 => s.modStu fun l => l.modify j f

/-- A MACHINE or GAUGE station of the line (R69, R99). -/
def State.isClampStation (s : State) (k : Nat) : Bool :=
  1 ≤ k && k ≤ s.n && (s.unit k).config.kind != .idle

/-- An occupied clamp station (R99). -/
def State.isOccupied (s : State) (k : Nat) : Bool := s.isClampStation k && (s.palletAt k).isSome

/-- The occupied clamp stations. -/
def State.occupiedStations (s : State) : List Nat := s.stationList.filter s.isOccupied

/-- The occupied clamp stations of a group (R101). -/
def State.groupStations (s : State) (g : Group) : List Nat :=
  s.occupiedStations.filter fun k => (s.unit k).config.group == some g

/-! ## Nodes and images (R179) -/

/-- All levels off and all fields 0: what is read where there is no image (log 10). -/
def InputImage.off : InputImage :=
  { home := false, done := false, pass := false, flt := false, clamped := false, unclamped := false,
    locIn := false, locOut := false, present := false, block := false, toggle := false, d2 := 0, d1 := 0,
    d0 := 0, c := 0, liftUp := false, liftDown := false, head := false, spurClear := false,
    aux := List.replicate 8 false }

/-- The node of an address. -/
def State.node (s : State) (a : Nat) : Option Node := s.rgc.nodes.find? (·.addr == a)

/-- The held input image of an address. -/
def State.image (s : State) (a : Nat) : InputImage := ((s.node a).bind Node.image).getD InputImage.off

/-- A node that is not ANSWERING counts as lost (R179). -/
def State.nodeLost (s : State) (a : Nat) : Bool :=
  match s.node a with
  | some nd => nd.state != .answering
  | none => true

/-- The image of the line node. -/
def State.lineImage (s : State) : InputImage := s.image Config.lineNode

/-! ## Channels (R95) -/

/-- The channel of an id, where it exists. -/
def State.channel (s : State) : ChannelId → Option Channel
  | .locator p => s.sct.locators[p]?
  | .clamp 0 => none
  | .clamp (k + 1) => s.sct.clamps[k]?
  | .lift => some s.sct.lift

/-- Change one channel. -/
def State.modChannel (c : ChannelId) (f : Channel → Channel) (s : State) : State :=
  match c with
  | .locator p => s.modSct fun t => { t with locators := t.locators.modify p f }
  | .clamp 0 => s
  | .clamp (k + 1) => s.modSct fun t => { t with clamps := t.clamps.modify k f }
  | .lift => s.modSct fun t => { t with lift := f t.lift }

/-- The commanded side of a channel. -/
def State.commandedSide (s : State) (c : ChannelId) : Option Side := (s.channel c).bind Channel.commanded

/-- Change every channel. -/
def State.modAllChannels (f : Channel → Channel) (s : State) : State :=
  s.modSct fun t => { t with locators := t.locators.map f, clamps := t.clamps.map f, lift := f t.lift }

/-- Reading of a sensor pair (R97). -/
def readPair (first second : Bool) : Reading :=
  match first, second with
  | true, false => .first
  | false, true => .second
  | false, false => .between
  | true, true => .conflict

/-- Reading of the lift switches. -/
def State.liftReading (s : State) : Reading := readPair s.lineImage.liftUp s.lineImage.liftDown

/-! ## Banks -/

/-- A bank. -/
def Cam.bank (c : Cam) : BankId → Bank
  | .a => c.bankA
  | .b => c.bankB

/-- The other bank. -/
def BankId.other : BankId → BankId
  | .a => .b
  | .b => .a

/-- Change one bank. -/
def State.modBank (bank : BankId) (f : Bank → Bank) (s : State) : State :=
  match bank with
  | .a => s.modCam fun c => { c with bankA := f c.bankA }
  | .b => s.modCam fun c => { c with bankB := f c.bankB }

/-- The bank in a given state, if one is. -/
def Cam.bankIn (c : Cam) (st : BankState) : Option BankId :=
  if c.bankA.state = st then some .a else if c.bankB.state = st then some .b else none

/-- The points of a bank with their indexes (R129). -/
def Bank.indexed (b : Bank) : List (Nat × CamPoint) := (List.range b.points.length).zip b.points

/-! ## Reports (R175, R176) -/

/-- The class of a report (Table 10-6, R113). -/
def Report.cls : Report → ReportClass
  | .reset .. => .alarm
  | .overflow .. => .alarm
  | .lineState .. => .event
  | .phase .. => .trace
  | .waiting .. => .event
  | .indexDone .. => .event
  | .seatLost .. => .alarm
  | .halted .. => .alarm
  | .haltAdded .. => .alarm
  | .haltSettled .. => .event
  | .recovered .. => .event
  | .palletDischarged .. => .event
  | .logDiscarded .. => .trace
  | .dispositionChanged .. => .event
  | .blockCarried .. => .event
  | .phantomLoad .. => .alarm
  | .phantomUnload .. => .alarm
  | .missingBlock .. => .alarm
  | .blockAgreed .. => .event
  | .blockOut .. => .event
  | .operationStart .. => .trace
  | .operationEnd .. => .trace
  | .unexpectedDone .. => .trace
  | .late .. => .event
  | .stationAbandoning .. => .event
  | .stationFault .. => .alarm
  | .stationCleared .. => .event
  | .stationService .. => .event
  | .liftUnknown .. => .alarm
  | .driveState _ .lost _ _ => .alarm
  | .driveState _ .fault _ _ => .alarm
  | .driveState .. => .event
  | .strokePlan .. => .trace
  | .strokeEnd .. => .trace
  | .bankSwapped .. => .event
  | .camMark .. => .trace
  | .camCheckFailed .. => .alarm
  | .camTrial .. => .event
  | .trialDone .. => .event
  | .loadState .. => .trace
  | .feedStart .. => .trace
  | .feedMatched .. => .trace
  | .feedNoread .. => .event
  | .feedReordered .. => .event
  | .feedForeign .. => .alarm
  | .feedConflict .. => .alarm
  | .feedFault .. => .alarm
  | .foreignRemoved .. => .event
  | .loadWaitExpired .. => .event
  | .feedAborted .. => .event
  | .nodeLost .. => .alarm
  | .nodeReturned .. => .event

/-- The mask lets a class through (R175). -/
def Clu.passes (c : Clu) : ReportClass → Bool
  | .alarm => true
  | .event => c.eventOn
  | .trace => c.traceOn

/-- One report of a class is lost at a time base count (R176). -/
def Overflow.lose (cls : ReportClass) (time : Nat) (o : Overflow) : Overflow :=
  let first := some (o.first.getD time)
  match cls with
  | .alarm => { o with alarms := satInc Config.maxCount16 o.alarms, first := first }
  | .event => { o with events := satInc Config.maxCount16 o.events, first := first }
  | .trace => { o with traces := satInc Config.maxCount16 o.traces, first := first }

/-- Put a report that the mask lets through into the report queue, by the table of R176. -/
def Clu.enqueue (q : QueuedReport) (c : Clu) : Clu :=
  if c.reports.length < Config.reportSlots then { c with reports := c.reports ++ [q] }
  else
    match q.report.cls, c.reports.findIdx? (fun r => r.report.cls != .alarm) with
    | .alarm, some i =>
      { c with
        reports := c.reports.eraseIdx i ++ [q]
        overflow := c.overflow.lose (((c.reports[i]?).map fun r => r.report.cls).getD .alarm) q.time }
    | cls, _ => { c with overflow := c.overflow.lose cls q.time }

/-- A report is handed to CLU (R175, R176). -/
def Clu.take (q : QueuedReport) (c : Clu) : Clu := if c.passes q.report.cls then c.enqueue q else c

/-- A block queues a report, with the time base count and the index count of that moment (R11, R175). -/
def State.report (r : Report) (s : State) : State :=
  s.modClu (Clu.take { report := r, time := s.timeBase, indexCount := s.prg.indexCount })

/-- A block queues several reports in order. -/
def State.reportAll (l : List Report) (s : State) : State := l.foldl (fun t r => t.report r) s

/-- OVERFLOW joins the tail when the record is pending and there is room (R176). -/
def State.flushOverflow (s : State) : State :=
  match s.clu.overflow.first with
  | none => s
  | some t =>
    if s.clu.reports.length < Config.reportSlots then
      s.modClu fun c =>
        { c with
          reports := c.reports ++
            [{ report := .overflow c.overflow.alarms c.overflow.events c.overflow.traces t, time := s.timeBase,
               indexCount := s.prg.indexCount }]
          overflow := { alarms := 0, events := 0, traces := 0, first := none } }
    else s

end Sys2Proof.Machine
end

