-- ==== Sys2Proof/Machine/Flags.lean ====
section
/-! DEFINITION. The conditions the blocks judge from the state: the feed permit (R62), the bar and the drive
(R46, R48), the discharge (R9, R14), the seat check (R47), VERIFY (R60), the six readiness conditions with the
detail WAITING gives (R52, R54), the watches of seats (R63). -/

namespace Sys2Proof.Machine

/-- RELEASE through LOWER, the phases in which the bar is up or may be (R62, R64, R85, R88, R158). -/
def Phase.barMayBeUp : Phase → Bool
  | .release => true
  | .withdraw => true
  | .lift => true
  | .advance => true
  | .lower => true
  | .wait => false
  | .locate => false
  | .clamp => false
  | .verify => false
  | .returning => false

/-- The halt phase, while the line is HALTED. -/
def State.haltPhase (s : State) : Option Phase :=
  if s.isq.line = .halted then s.isq.haltRecord.map HaltRecord.phase else none

/-- The line is RUNNING in a phase that meets the test. -/
def State.runningIn (s : State) (f : Phase → Bool) : Bool := s.isq.line == .running && s.isq.phase.any f

/-- The line is RUNNING in WAIT. -/
def State.inWait (s : State) : Bool := s.runningIn (· == .wait)

/-- The line is RUNNING in a phase other than WAIT, where a halt cause halts it (R64). -/
def State.inIndex (s : State) : Bool := s.runningIn (· != .wait)

/-- The phase in hand or the halt phase lies in RELEASE..LOWER (R85, R88). -/
def State.barPhase (s : State) : Bool := s.runningIn Phase.barMayBeUp || s.haltPhase.any Phase.barMayBeUp

/-- The feed permit by the table of R62. -/
def State.feedPermit (s : State) : Bool :=
  match s.isq.line with
  | .unconfigured => false
  | .held => true
  | .running => !(s.isq.phase.any Phase.barMayBeUp)
  | .halted => !(s.haltPhase.any Phase.barMayBeUp)

/-- The bar is home (R46). -/
def State.barHome (s : State) : Bool :=
  s.mgn.commanded == 0 && s.mgn.lastFeedback.any (within s.mgn.settings.band 0)

/-- The drive is ready (R113). -/
def State.driveReady (s : State) : Bool := s.mgn.drive == .ready

/-- A trial is in progress, its quick stop included (R125, R139). -/
def State.inTrial (s : State) : Bool := s.cam.trial.isSome

/-- R14 would divert the pallet, judged by its withdraw flag, its count plus one and the limit. -/
def Pallet.diverts (limit : Nat) (r : Pallet) : Bool :=
  r.withdraw || (limit != 0 && decide (limit ≤ satInc Config.maxCycle r.cycles))

/-- The record of the pallet in slot N+1. -/
def State.unloadPallet (s : State) : Option Pallet := (s.palletAt (s.n + 1)).bind s.record

/-- The reserved count (R9). -/
def State.reserved (s : State) : Nat :=
  match s.prg.openIndex, s.unloadPallet with
  | true, some r => if r.diverts s.prg.inspectionLimit then 0 else 1
  | _, _ => 0

/-- There is no room for an id to join the return queue (R9). -/
def State.queueFull (s : State) : Bool := decide (s.prg.capacity ≤ s.prg.queue.length + s.reserved)

/-! ## The seat check of RUN (R47) -/

/-- The load position is in the hands of a feed. -/
def LoadState.inFeed : LoadState → Bool
  | .feeding => true
  | .seating => true
  | .reading => true
  | .empty => false
  | .awaitingBlock => false
  | .ready => false
  | .foreign => false

/-- The occupancy check fails at p. -/
def State.occupancyFails (s : State) (p : Nat) : Bool :=
  !(p == 0 && s.fdu.state.inFeed) && ((s.slot p != .empty) != (s.image p).present)

/-- The locator check fails at p. -/
def State.locatorFails (s : State) (p : Nat) : Bool :=
  s.commandedSide (.locator p) == some .engage && (!(s.image p).locIn || (s.image p).locOut)

/-- The clamp check fails at p. -/
def State.clampFails (s : State) (p : Nat) : Bool :=
  s.isOccupied p && (!(s.image p).clamped || (s.image p).unclamped)

/-- The checks position p fails, in the order of the table of R47. -/
def State.seatFailures (s : State) (p : Nat) : List SeatCheck :=
  (if s.occupancyFails p then [.occupancy] else []) ++ (if s.locatorFails p then [.locators] else []) ++
    (if s.clampFails p then [.clamps] else []) ++ (if s.nodeLost p then [.node] else [])

/-- Every failing position with the checks it failed, ascending (R47). -/
def State.seatCheck (s : State) : List (Nat × List SeatCheck) :=
  (s.positionList.map fun p => (p, s.seatFailures p)).filter fun e => !e.2.isEmpty

/-! ## VERIFY (R60) -/

/-- Position p passes VERIFY. -/
def State.verifies (s : State) (p : Nat) : Bool :=
  (s.palletAt p).isSome == (s.image p).present && (s.image p).locIn && !(s.image p).locOut &&
    (!(s.isOccupied p) || ((s.image p).clamped && !(s.image p).unclamped)) && !(s.nodeLost p)

/-- The positions that fail VERIFY, ascending. -/
def State.verifyFailures (s : State) : List Nat := s.workPositions.filter fun p => !(s.verifies p)

/-! ## Readiness (R52, R54) -/

/-- VACANT or COMPLETE (R52 condition 1). -/
def UnitState.finished : UnitState → Bool
  | .vacant => true
  | .complete => true
  | .seated => false
  | .working => false
  | .late => false
  | .abandoning => false
  | .faulted => false

/-- Condition 1: the stations not VACANT or COMPLETE, with their states. -/
def State.unfinished (s : State) : List (Nat × UnitState) :=
  (s.stationList.filter fun k => !(s.unit k).state.finished).map fun k => (k, (s.unit k).state)

/-- Condition 2 holds. -/
def State.loadSettled (s : State) : Bool :=
  !(s.nodeLost 0) &&
    ((s.fdu.state == .ready && s.prg.disagreement.isNone) || (s.fdu.state == .empty && s.prg.queue.isEmpty))

/-- What keeps condition 2 false, the node's loss first, then the disagreement (log 25). -/
def State.loadDetail (s : State) : LoadDetail :=
  if s.nodeLost 0 then .nodeLost
  else
    match s.prg.disagreement with
    | some d => .disagreement d
    | none => .state s.fdu.state

/-- Condition 3 holds. -/
def State.unloadClear (s : State) : Bool := s.prg.watch == .idle && !(s.nodeLost (s.n + 1))

/-- What keeps condition 3 false, the node's loss first (log 25). -/
def State.unloadDetail (s : State) : UnloadDetail :=
  if s.nodeLost (s.n + 1) then .nodeLost else .watch s.prg.watch

/-- The pallet in slot N+1 would be diverted. -/
def State.unloadDiverts (s : State) : Bool := s.unloadPallet.any (Pallet.diverts s.prg.inspectionLimit)

/-- Condition 4 holds. -/
def State.roomForDischarge (s : State) : Bool :=
  match s.palletAt (s.n + 1) with
  | none => true
  | some _ =>
    if s.unloadDiverts then s.lineImage.spurClear && !(s.nodeLost Config.lineNode)
    else decide (s.prg.queue.length < s.prg.capacity)

/-- What keeps condition 5 false; empty when it holds. -/
def State.barDetails (s : State) : List BarDetail :=
  (if s.barHome then [] else [.notHome]) ++ (if s.sct.liftState = .down then [] else [.liftNotDown]) ++
    (if s.driveReady then [] else [.driveNotReady]) ++ (if s.nodeLost Config.lineNode then [.lineNodeLost] else [])

/-- Condition 6 holds. -/
def State.camsReady (s : State) : Bool := (s.cam.bankIn .active).isSome || (s.cam.bankIn .armed).isSome

/-- The false readiness conditions in the order of their numbers. -/
def State.falseConditions (s : State) : List Condition :=
  (if s.unfinished.isEmpty then [] else [.stations s.unfinished]) ++
    (if s.loadSettled then [] else [.load s.loadDetail]) ++
    (if s.unloadClear then [] else [.unload (s.n + 1) s.unloadDetail]) ++
    (if s.roomForDischarge then [] else [.room (s.n + 1) s.unloadDiverts]) ++
    (if s.barDetails.isEmpty then [] else [.bar s.barDetails]) ++ (if s.camsReady then [] else [.cams])

/-- An index starts: RUNNING in WAIT, hold-pending clear, all six conditions true (R52). -/
def State.ready (s : State) : Bool := s.inWait && !s.isq.holdPending && s.falseConditions.isEmpty

/-! ## Watches -/

/-- The phases and halt phases of the seat watch (R63). -/
def Phase.seatWatched : Phase → Bool
  | .release => true
  | .withdraw => true
  | .returning => true
  | .wait => false
  | .lift => false
  | .advance => false
  | .lower => false
  | .locate => false
  | .clamp => false
  | .verify => false

/-- The phases in which a lost position node halts the line (R66). -/
def Phase.usesNodes : Phase → Bool
  | .release => true
  | .withdraw => true
  | .lift => true
  | .advance => true
  | .lower => true
  | .locate => true
  | .clamp => true
  | .verify => true
  | .wait => false
  | .returning => false

/-- All three seat-clear marks are set (R57). -/
def Isq.allMarks (q : Isq) : Bool := q.released && q.withdrawn && q.lifted

/-- What the unload watch shows for a content of slot N+1 and a level (R39). -/
def judgeUnload (hasBlock level : Bool) : Watch :=
  match hasBlock, level with
  | false, false => .idle
  | true, false => .expecting
  | true, true => .present
  | false, true => .phantom

/-- The disagreement between a READY pallet and the load BLOCK input (R38). -/
def judgeLoad (hasBlock level : Bool) : Option Disagreement :=
  match hasBlock, level with
  | false, true => some .phantom
  | true, false => some .missing
  | _, _ => none

end Sys2Proof.Machine
end

