-- ==== Sys2Proof/Machine/Register.lean ====
section
/-! DEFINITION. The Pallet Register's operations (chapters 1 and 2): records and places, the append to a log,
the two block sensors, the shift and the discharge. -/

namespace Sys2Proof.Machine

/-! ## Records and places -/

/-- Change the record of an id (R3). -/
def State.modRecord (id : Nat) (f : Pallet → Pallet) (s : State) : State :=
  s.modPrg fun g => { g with records := g.records.map fun r => if r.id = id then f r else r }

/-- Change the block an id's record carries. -/
def State.modBlock (id : Nat) (f : Block → Block) (s : State) : State :=
  s.modRecord id fun r => { r with block := r.block.map f }

/-- Write slot p. -/
def State.setSlot (p : Nat) (c : Slot) (s : State) : State :=
  s.modPrg fun g => { g with map := g.map.set p c }

/-- A record as it is created (R3). -/
def Pallet.fresh (id : Nat) (block : Option Block) : Pallet :=
  { id := id, cycles := 0, withdraw := false, unverified := false, transit := false, block := block }

/-- Create a record (R3). -/
def State.createRecord (id : Nat) (block : Option Block) (s : State) : State :=
  s.modPrg fun g => { g with records := insertRecord (Pallet.fresh id block) g.records }

/-- Delete a record with its block (R23). -/
def State.deleteRecord (id : Nat) (s : State) : State :=
  s.modPrg fun g => { g with records := g.records.filter (·.id != id) }

/-- An id joins the tail of the return queue (R8). -/
def State.joinQueue (id : Nat) (s : State) : State := s.modPrg fun g => { g with queue := g.queue ++ [id] }

/-- An id joins the offline set (R10). -/
def State.joinOffline (id : Nat) (s : State) : State :=
  s.modPrg fun g => { g with offline := insertAsc id g.offline }

/-- An id leaves the offline set (R10). -/
def State.leaveOffline (id : Nat) (s : State) : State :=
  s.modPrg fun g => { g with offline := g.offline.filter (· != id) }

/-- Set the transit mark of every pallet on the map (R12). -/
def State.setTransit (s : State) : State :=
  s.modPrg fun g =>
    { g with records := g.records.map fun r => if g.map.contains (.pallet r.id) then { r with transit := true } else r }

/-- Clear every transit mark (R12, R13). -/
def State.clearTransit (s : State) : State :=
  s.modPrg fun g => { g with records := g.records.map fun r => { r with transit := false } }

/-! ## Register operations for the Feed Unit (R16) -/

/-- TAKE ORDINAL k: the id at that ordinal goes to slot 0. -/
def State.takeOrdinal (k : Nat) (verified : Bool) (s : State) : State :=
  match s.prg.queue[k - 1]? with
  | none => s
  | some id =>
    ((s.modPrg fun g => { g with queue := g.queue.eraseIdx (k - 1) }).setSlot 0 (.pallet id)).modRecord id
      fun r => { r with unverified := !verified }

/-- MARK FOREIGN. -/
def State.markForeign (id : Nat) (s : State) : State := s.setSlot 0 (.foreign id)

/-- CLEAR LOAD. -/
def State.clearLoad (s : State) : State := s.setSlot 0 .empty

/-! ## The operation log (R28 to R31) -/

/-- The disposition after an append (R30). -/
def Disposition.after (r : LogResult) (d : Disposition) : Disposition :=
  match r with
  | .done => d
  | .pass => d
  | .skipped => d
  | .timedOut => if d = .reject then .reject else .suspect
  | .failed => if d = .reject then .reject else .suspect
  | .interrupted => if d = .reject then .reject else .suspect
  | .fail => .reject

/-- PASS and FAIL, the results of a gauge (R31). -/
def LogResult.gauged : LogResult → Bool
  | .pass => true
  | .fail => true
  | .done => false
  | .skipped => false
  | .timedOut => false
  | .failed => false
  | .interrupted => false

/-- The log holds an entry for station k (R28). -/
def Block.logged (k : Nat) (b : Block) : Bool := b.log.any (·.station == k)

/-- The block after an append: the entry, the disposition and the lock in one write (R29 to R31). -/
def Block.append (e : LogEntry) (final : Bool) (b : Block) : Block :=
  { b with
    log := b.log ++ [e]
    disposition := b.disposition.after e.result
    lock := b.lock || (final && e.result.gauged) }

/-- Why an append is discarded, if it is (R29). -/
def State.appendRefusal (k : Nat) (s : State) : Option DiscardReason :=
  match s.blockAt k with
  | none => some .noBlock
  | some b => if b.lock then some .locked else if b.logged k then some .duplicate else none

/-- The append request of station k with program and result (R29): the new state, and whether it was taken. -/
def State.append (k program : Nat) (r : LogResult) (s : State) : State × Bool :=
  match s.appendRefusal k with
  | some why => (s.report (.logDiscarded k program r why), false)
  | none =>
    match s.palletAt k, s.blockAt k with
    | some id, some b =>
      let t := s.modBlock id (Block.append { station := k, program := program, result := r } (s.unit k).config.finalGauge)
      let d := b.disposition.after r
      (if d = b.disposition then t else t.report (.dispositionChanged id b.serial k r b.disposition d), true)
    | _, _ => (s, false)

/-! ## The block sensors (R38 to R41) -/

/-- PRG's load check (R38): in READY with the open-index flag clear the input is compared with the record; a
disagreement ends when the state leaves READY. -/
def State.loadCheck (s : State) : State :=
  let now : Option Disagreement :=
    if s.fdu.state = .ready then
      if s.prg.openIndex then s.prg.disagreement else judgeLoad (s.blockAt 0).isSome (s.image 0).block
    else none
  if now = s.prg.disagreement then s
  else
    let t := s.modPrg fun g => { g with disagreement := now }
    let t := if s.prg.disagreement.isSome then t.report (.blockAgreed 0) else t
    match now with
    | none => t
    | some .phantom => t.report (.phantomLoad ((s.palletAt 0).getD 0))
    | some .missing => t.report (.missingBlock ((s.palletAt 0).getD 0) (((s.blockAt 0).map Block.serial).getD []))

/-- A judgement of the unload watch (R39), with the report of R41 at entry to PHANTOM. -/
def State.judgeWatch (s : State) : State :=
  let w := judgeUnload (s.blockAt (s.n + 1)).isSome (s.image (s.n + 1)).block
  let t := s.modPrg fun g => { g with watch := w }
  if w = .phantom ∧ s.prg.watch ≠ .phantom then
    t.report (.phantomUnload (s.n + 1) (s.palletAt (s.n + 1)) s.prg.indexCount)
  else t

/-- The unload BLOCK input rises (R40). -/
def State.unloadRise (s : State) : State :=
  match s.prg.watch with
  | .idle =>
    (s.modPrg fun g => { g with watch := .phantom }).report
      (.phantomUnload (s.n + 1) (s.palletAt (s.n + 1)) s.prg.indexCount)
  | .expecting => s.modPrg fun g => { g with watch := .present }
  | .present => s
  | .phantom => s
  | .deferred => s

/-- The removal of the block at N+1 (R40): BLOCK OUT, then the block record is deleted. -/
def State.removeBlock (s : State) : State :=
  match s.unloadPallet with
  | none => s
  | some r =>
    match r.block with
    | none => s
    | some b => (s.report (.blockOut r.id r.cycles r.unverified b)).modRecord r.id fun q => { q with block := none }

/-- The unload BLOCK input drops (R40). -/
def State.unloadDrop (s : State) : State :=
  match s.prg.watch with
  | .present => s.removeBlock.modPrg fun g => { g with watch := .idle }
  | .phantom => (s.modPrg fun g => { g with watch := .idle }).report (.blockAgreed (s.n + 1))
  | .idle => s
  | .expecting => s
  | .deferred => s

/-! ## The shift and the discharge (R13, R14) -/

/-- The diversion reason of a pallet whose count is already incremented (R14). -/
def Pallet.diversion (limit : Nat) (r : Pallet) : Option Diversion :=
  match r.withdraw, limit != 0 && decide (limit ≤ r.cycles) with
  | true, true => some .both
  | true, false => some .withdrawn
  | false, true => some .inspection
  | false, false => none

/-- The discharge of the pallet in slot N+1 (R14); the slot itself is overwritten by the shift. -/
def State.discharge (s : State) : State :=
  match s.unloadPallet with
  | none => s
  | some r0 =>
    let r := { r0 with cycles := satInc Config.maxCycle r0.cycles }
    match r.diversion s.prg.inspectionLimit with
    | some why =>
      (((s.modRecord r.id fun _ => { r with withdraw := false }).joinOffline r.id).report
        (.palletDischarged r.id .spur r.cycles (some why) r.unverified))
    | none =>
      let t := (s.modRecord r.id fun _ => r).joinQueue r.id
      t.report (.palletDischarged r.id (.queue t.prg.queue.length) r.cycles none r.unverified)

/-- The map one position forward, slot 0 EMPTY (R13). -/
def shiftMap : List Slot → List Slot
  | [] => []
  | l => .empty :: l.dropLast

/-- The shift's effect on the register, and the judgement of the unload watch after it, its step of the index count
included (R13, R39, R41; log 69). -/
def State.shift (s : State) : State :=
  (((s.discharge.modPrg fun g =>
      { g with map := shiftMap g.map, indexCount := wrapInc g.indexCount, openIndex := false }).clearTransit).modIsq
    fun q => { q with shiftTaken := true }).judgeWatch

end Sys2Proof.Machine
end

