-- ==== Sys2Proof/Machine/Seating.lean ====
section
/-! DEFINITION. The Seat Controller's operations (chapter 5): pulses and the requests for them, phase commands,
the lift, position requests, the releases and clamps after host edits, the held interval and the top-up. -/

namespace Sys2Proof.Machine

/-! ## Pulses and requests (R95, R96) -/

/-- The seat-clear mark a pulse undoes is cleared as the pulse starts (R57, R95). -/
def State.clearMark (c : ChannelId) (side : Side) (s : State) : State :=
  match c, side with
  | .clamp _, .engage => s.modIsq fun q => { q with released := false }
  | .locator _, .engage => s.modIsq fun q => { q with withdrawn := false }
  | .lift, .disengage => s.modIsq fun q => { q with lifted := false }
  | _, _ => s

/-- A pulse starts (R95). -/
def State.startPulse (c : ChannelId) (side : Side) (requesters : List Requester) (s : State) : State :=
  (s.modChannel c fun _ =>
    { pulse := some { side := side, timer := s.sct.settings.pulse, requesters := requesters }
      commanded := some side
      pending := none }).clearMark c side

/-- A clamp channel carries requests only while its station is a clamp station (R95). -/
def State.carries (s : State) : ChannelId → Bool
  | .locator _ => true
  | .clamp k => s.isClampStation k
  | .lift => true

/-- The channel of an id, where it exists and carries requests (R95). -/
def State.openChannel (s : State) (c : ChannelId) : Option Channel := if s.carries c then s.channel c else none

/-- A request for a pulse, by the table of R96. A channel that does not exist or carries no requests takes
none (R95). -/
def State.requestPulse (c : ChannelId) (side : Side) (who : Requester) (s : State) : State :=
  match s.openChannel c with
  | none => s
  | some ch =>
    match ch.pulse with
    | none => s.startPulse c side [who]
    | some p =>
      if p.side = side then
        s.modChannel c fun x =>
          { x with pulse := some { p with requesters := p.requesters ++ [who] }, pending := none }
      else
        match ch.pending with
        | none => s.modChannel c fun x => { x with pending := some { side := side, requesters := [who] } }
        | some w => s.modChannel c fun x => { x with pending := some { w with requesters := w.requesters ++ [who] } }

/-- The same request on several channels. -/
def State.requestPulses (cs : List ChannelId) (side : Side) (who : Requester) (s : State) : State :=
  cs.foldl (fun t c => t.requestPulse c side who) s

/-- A requester leaves a pending pulse, which is cancelled when none is left (R96). -/
def Channel.withdraw (who : Requester) (ch : Channel) : Channel :=
  match ch.pending with
  | none => ch
  | some w =>
    let left := w.requesters.filter (· != who)
    if left.isEmpty then { ch with pending := none }
    else { ch with pending := some { w with requesters := left } }

/-- The pending pulse of a channel is cancelled (R111). -/
def Channel.cancelPending (ch : Channel) : Channel := { ch with pending := none }

/-- A requester has a request in flight or pending on the channel. -/
def Channel.serves (who : Requester) (ch : Channel) : Bool :=
  ch.pulse.any (fun p => p.requesters.contains who) || ch.pending.any (fun w => w.requesters.contains who)

/-! ## Phase commands (R99 to R101) -/

/-- The end condition of a phase at one position (Table 5-1). -/
def State.endsWith (s : State) (ph : Phase) (p : Nat) : Bool :=
  match ph with
  | .release => (s.image p).unclamped && !(s.image p).clamped
  | .withdraw => (s.image p).locOut && !(s.image p).locIn
  | .locate => (s.image p).locIn
  | .clamp => (s.image p).clamped
  | .wait => false
  | .lift => false
  | .advance => false
  | .lower => false
  | .verify => false
  | .returning => false

/-- The set of a phase command (Table 5-1). -/
def State.phaseSet (s : State) (ph : Phase) : List Nat :=
  match ph with
  | .release => s.occupiedStations
  | .withdraw => s.positionList
  | .locate => s.workPositions
  | .clamp => s.occupiedStations
  | .wait => []
  | .lift => []
  | .advance => []
  | .lower => []
  | .verify => []
  | .returning => []

/-- The timeout of a phase command (Table 5-1). -/
def SeatSettings.phaseTimeout (t : SeatSettings) (ph : Phase) : Nat :=
  match ph with
  | .release => t.release
  | .withdraw => t.locate
  | .locate => t.locate
  | .clamp => t.clamp
  | .lift => t.lift
  | .lower => t.lift
  | .wait => 0
  | .advance => 0
  | .verify => 0
  | .returning => 0

/-- The held interval closes and the top-up ends (R107, R109, R111). -/
def State.closeHeld (s : State) : State :=
  s.modSct fun t => { t with held := false, topUpTimer := none, topUp := .idle }

/-- Group B of the top-up leaves every pending pulse: a group B top-up still pending is cancelled by RELEASE, at every
station (R56, R109). A pending pulse that another requester asked for too stays (R96; log 65). -/
def State.cancelGroupB (s : State) : State :=
  s.modSct fun t => { t with clamps := t.clamps.map (Channel.withdraw (.topUp .b)) }

/-- The interval the top-up timer is loaded with: none when it is off (R107). -/
def SeatSettings.topUpLoad (t : SeatSettings) : Option Nat :=
  if t.topUp = 0 then none else some (t.topUp * Config.second)

/-- The held interval opens at the completion of CLAMP and the top-up timer is loaded (R101, R107). A top-up whose
group B is still to come or in flight goes on: only R109 and R111 end it (R108; log 48). -/
def State.openHeld (s : State) : State :=
  s.modSct fun t => { t with held := true, topUpTimer := t.settings.topUpLoad }

/-- The pulse requests of RELEASE, WITHDRAW and LOCATE, and group A of CLAMP (R100, R101). -/
def State.phaseRequests (ph : Phase) (s : State) : State :=
  match ph with
  | .release => s.requestPulses (s.occupiedStations.map .clamp) .disengage (.phase .release)
  | .withdraw => s.requestPulses (s.positionList.map .locator) .disengage (.phase .withdraw)
  | .locate => s.requestPulses (s.workPositions.map .locator) .engage (.phase .locate)
  | .clamp =>
    let first := s.groupStations .a
    let later := s.groupStations .b
    if s.sct.settings.stagger = 0 then
      s.requestPulses ((first ++ later).map .clamp) .engage (.phase .clamp)
    else
      (s.requestPulses (first.map .clamp) .engage (.phase .clamp)).modSct fun t =>
        { t with clampWait := some { timer := t.settings.stagger, stations := later } }
  | .wait => s
  | .lift => s
  | .advance => s
  | .lower => s
  | .verify => s
  | .returning => s

/-- A phase command begins (R99); RELEASE also cancels a group B that waits or is pending and closes the held interval
(R56, R101, R109). -/
def State.openCommand (ph : Phase) (s : State) : State :=
  let t := if ph = .release then (s.modSct fun x => { x with clampWait := none }).cancelGroupB.closeHeld else s
  (t.modSct fun x =>
    { x with
      command := some { phase := ph, positions := s.phaseSet ph, timer := x.settings.phaseTimeout ph } }).phaseRequests ph

/-- The open phase command meets its end condition at every position of its set (R99). -/
def State.commandMet (s : State) : Option Phase :=
  match s.sct.command with
  | none => none
  | some c => if c.positions.all (s.endsWith c.phase) then some c.phase else none

/-- The phase command ends, its pulses going on (R99). -/
def State.closeCommand (s : State) : State := s.modSct fun t => { t with command := none }

/-! ## The lift (R102, R103) -/

/-- The lift state takes a value; entry to UNKNOWN queues LIFT UNKNOWN (R102). -/
def State.setLift (l : LiftState) (s : State) : State :=
  let t := s.modSct fun x => { x with liftState := l }
  if l = .unknown ∧ s.sct.liftState ≠ .unknown then
    t.report (.liftUnknown s.lineImage.liftUp s.lineImage.liftDown (s.sct.movement.map Movement.move))
  else t

/-- The lift state the switches show with no movement open (R103). -/
def liftAtRest : Reading → LiftState
  | .first => .up
  | .second => .down
  | .between => .unknown
  | .conflict => .unknown

/-- The lift state a movement shows for a reading (R102). -/
def liftMoving (m : LiftMove) (r : Reading) : LiftState :=
  match m, r with
  | .raise, .first => .up
  | .raise, .second => .rising
  | .raise, .between => .rising
  | .raise, .conflict => .unknown
  | .lower, .first => .unknown
  | .lower, .second => .down
  | .lower, .between => .falling
  | .lower, .conflict => .unknown

/-- The reading a movement ends at (R102). -/
def LiftMove.target : LiftMove → Reading
  | .raise => .first
  | .lower => .second

/-- The lift state is judged with no movement open (R103). -/
def State.judgeLiftAtRest (s : State) : State := s.setLift (liftAtRest s.liftReading)

/-- A judgement of the lift switches (R102, R103): the new state, and the movement that completed. -/
def State.judgeLift (s : State) : State × Option LiftMove :=
  match s.sct.movement with
  | none => (s.judgeLiftAtRest, none)
  | some m =>
    let t := s.setLift (liftMoving m.move s.liftReading)
    if s.liftReading = m.move.target then (t.modSct fun x => { x with movement := none }, some m.move)
    else (t, none)

/-- A movement is asked for: timer, pulse, RISING or FALLING, and a first judgement (R102). -/
def State.openMovement (m : LiftMove) (s : State) : State × Option LiftMove :=
  let t := s.modSct fun x => { x with movement := some { move := m, timer := x.settings.lift } }
  let t := t.requestPulse .lift (match m with | .raise => .engage | .lower => .disengage) .lift
  let t := t.setLift (match m with | .raise => .rising | .lower => .falling)
  t.judgeLift

/-- The open movement ends other than by completion, and the lift state is judged (R103). -/
def State.endMovement (s : State) : State :=
  match s.sct.movement with
  | none => s
  | some _ => (s.modSct fun x => { x with movement := none }).judgeLiftAtRest

/-! ## Ending a phase (R104) -/

/-- SCT ends the valve work of the halted phase. -/
def State.endPhaseWork (s : State) : State :=
  let t :=
    match s.sct.command with
    | none => s
    | some c => (s.modAllChannels (Channel.withdraw (.phase c.phase))).closeCommand
  let t := t.modSct fun x => { x with clampWait := none }
  match t.sct.movement with
  | none => t
  | some _ => (t.modAllChannels (Channel.withdraw .lift)).endMovement

/-! ## Position requests (R105) -/

/-- The channel and side of a position request. -/
def requestTarget : RequestId → ChannelId × Side
  | .reclamp k => (.clamp k, .engage)
  | .seatLoad => (.locator 0, .engage)
  | .releaseLoad => (.locator 0, .disengage)

/-- The condition that ends a position request's wait. -/
def State.requestMet (s : State) : RequestId → Bool
  | .reclamp k => (s.image k).clamped
  | .seatLoad => (s.image 0).locIn
  | .releaseLoad => (s.image 0).locOut && !(s.image 0).locIn

/-- The timeout of a position request. -/
def SeatSettings.requestTimeout (t : SeatSettings) : RequestId → Nat
  | .reclamp _ => t.clamp
  | .seatLoad => t.locate
  | .releaseLoad => t.locate

/-- A position request closes: its timer stops. -/
def State.closeRequest (id : RequestId) (s : State) : State :=
  s.modSct fun t => { t with requests := t.requests.filter (·.id != id) }

/-- A position request opens with a timer of its own and asks for its pulse; a request already open for the
same purpose is replaced (log 34). -/
def State.openRequest (id : RequestId) (s : State) : State :=
  let t := s.closeRequest id
  let t := t.modSct fun x =>
    { x with requests := x.requests ++ [{ id := id, timer := x.settings.requestTimeout id }] }
  t.requestPulse (requestTarget id).1 (requestTarget id).2 .position

/-- The position request is open. -/
def State.requestOpen (s : State) (id : RequestId) : Bool := s.sct.requests.any (·.id == id)

/-- A requester withdraws its position request: the timer stops and no outcome is handed over; its part in a
pending pulse goes (R96, R105). -/
def State.withdrawRequest (id : RequestId) (s : State) : State :=
  if s.requestOpen id then
    let t := s.closeRequest id
    match s.channel (requestTarget id).1 with
    | some ch =>
      if ch.pending.any (·.side == (requestTarget id).2) then t.modChannel (requestTarget id).1 (Channel.withdraw .position) else t
    | none => t
  else s

/-! ## Host edits (R106) -/

/-- The stations of the empty-fixture release. -/
def State.emptyFixtures (s : State) : List Nat :=
  s.stationList.filter fun k =>
    s.isClampStation k && s.slot k == .empty && s.commandedSide (.clamp k) != some .disengage

/-- The empty-fixture release. -/
def State.releaseEmptyFixtures (s : State) : State :=
  s.requestPulses (s.emptyFixtures.map .clamp) .disengage .emptyFixture

/-- The placed-pallet clamp. -/
def State.clampPlaced (k : Nat) (s : State) : State := s.requestPulse (.clamp k) .engage .placedPallet

/-! ## Top-up (R108) -/

/-- CLAMP is requested at every occupied clamp station of a group. -/
def State.topUpGroup (g : Group) (s : State) : State :=
  s.requestPulses ((s.groupStations g).map .clamp) .engage (.topUp g)

/-- Group B has no pulse left, in flight or pending. -/
def State.groupBDone (s : State) : Bool := !(s.sct.clamps.any (Channel.serves (.topUp .b)))

/-- When every group B pulse has ended the timer is loaded again. -/
def State.topUpReload (s : State) : State :=
  if s.sct.topUp = .groupB ∧ s.groupBDone then
    s.modSct fun t => { t with topUp := .idle, topUpTimer := if t.held then t.settings.topUpLoad else none }
  else s

/-- Group B is requested; with no station in it the timer is loaded again at once. -/
def State.topUpGroupB (s : State) : State :=
  ((s.modSct fun t => { t with topUp := .groupB }).topUpGroup .b).topUpReload

/-! ## SET LINE and RESTART -/

/-- Channels of N stations: kept by number, those added IDLE and UNSET (R111). -/
def resizeChannels (n : Nat) (l : List Channel) : List Channel :=
  (List.range n).map fun i => (l[i]?).getD Channel.initial

/-- A channel at RESTART: pending pulses are cancelled, the pulse in flight runs on (R111). -/
def State.seatRestart (s : State) : State :=
  let t := (s.modAllChannels Channel.cancelPending).modSct fun x =>
    { x with command := none, clampWait := none, requests := [] }
  t.endMovement.closeHeld

end Sys2Proof.Machine
end

