-- ==== Sys2Proof/Machine/CamUnit.lean ====
section
/-! DEFINITION. The Cam Unit (chapter 7): validity, the swap, the stroke record, firing in live and trial
strokes, and the end of a trial. -/

namespace Sys2Proof.Machine

/-! ## Validity (R131) -/

/-- A point lies above the point before it of its direction. -/
def aboveBefore (before : Option Nat) (p : Nat) : Bool :=
  match before with
  | none => true
  | some q => decide (q < p)

/-- The lowest-numbered point at fault, from index i on, given the last ADVANCE and RETURN positions before
it; a position above S is named before an order fault of the same point (log 14). -/
def pointFault (stroke : Nat) : Nat → Option Nat → Option Nat → List CamPoint → Option (Nat × CamFault)
  | _, _, _, [] => none
  | i, adv, ret, p :: l =>
    if stroke < p.position then some (i, .aboveS)
    else
      match p.stroke with
      | .advance =>
        if aboveBefore adv p.position then pointFault stroke (i + 1) (some p.position) ret l else some (i, .order)
      | .returning =>
        if aboveBefore ret p.position then pointFault stroke (i + 1) adv (some p.position) l else some (i, .order)

/-- The fault of a bank under a stroke length, none when it is valid. -/
def Bank.fault (stroke : Nat) (b : Bank) : Option (Nat × CamFault) := pointFault stroke 0 none none b.points

/-! ## The swap (R133) -/

/-- At ADVANCE start an ARMED bank becomes ACTIVE and the ACTIVE one OPEN. -/
def State.swapBanks (s : State) : State :=
  match s.cam.bankIn .armed with
  | none => s
  | some new =>
    let old := s.cam.bankIn .active
    let t :=
      match old with
      | none => s
      | some o => s.modBank o fun x => { x with state := .open_ }
    let t := t.modBank new fun x => { x with state := .active }
    t.report (.bankSwapped new (t.cam.bank new).points.length old)

/-! ## Stroke record and firing (R135 to R137, R140) -/

/-- MGN tells CAM that a stroke begins (R135). -/
def State.camBegin (d : Direction) (live : Bool) (first : Option Int) (s : State) : State :=
  s.modCam fun c =>
    { c with
      stroke := some
        { direction := d, live := live
          bank := if live then c.bankIn .active else c.trial.map TrialRecord.bank
          previous := first, fired := [] } }

/-- The stroke record closes. -/
def State.camEnd (s : State) : State := s.modCam fun c => { c with stroke := none }

/-- A point at P is crossed from p0 to p1 (R136). -/
def crossed (d : Direction) (p0 p1 : Int) (P : Nat) : Bool :=
  match d with
  | .advance => decide (p0 < P) && decide ((P : Int) ≤ p1)
  | .returning => decide ((P : Int) < p0) && decide (p1 ≤ P)

/-- A point joins a list held in stroke order (R136). -/
def insertInOrder (d : Direction) (e : Nat × CamPoint) : List (Nat × CamPoint) → List (Nat × CamPoint)
  | [] => [e]
  | f :: l =>
    let before : Bool :=
      match d with
      | .advance => decide (e.2.position < f.2.position)
      | .returning => decide (f.2.position < e.2.position)
    if before then e :: f :: l else f :: insertInOrder d e l

/-- Points in stroke order. -/
def inStrokeOrder (d : Direction) (l : List (Nat × CamPoint)) : List (Nat × CamPoint) :=
  l.foldr (insertInOrder d) []

/-- The points a hand-over to p1 crosses, in stroke order (R136). -/
def State.crossings (s : State) (r : StrokeRecord) (p1 : Int) : List (Nat × CamPoint) :=
  match r.bank, r.previous with
  | some id, some p0 =>
    inStrokeOrder r.direction
      ((s.cam.bank id).indexed.filter fun e =>
        e.2.stroke == r.direction && !r.fired.contains e.1 && crossed r.direction p0 p1 e.2.position)
  | _, _ => []

/-- A point joins the fired sets. -/
def State.markFired (i : Nat) (s : State) : State :=
  s.modCam fun c =>
    { c with
      stroke := c.stroke.map fun r => { r with fired := r.fired ++ [i] }
      trial := c.trial.map fun r => if c.stroke.any (fun k => !k.live) then { r with fired := r.fired ++ [i] } else r }

/-- Auxiliary output k takes a level (R138). -/
def State.setAux (k : Nat) (on : Bool) (s : State) : State := s.modCam fun c => { c with aux := c.aux.set k on }

/-- The level of auxiliary input k in the latest line-node image (R137). -/
def State.auxInput (s : State) (k : Nat) : Bool := (s.lineImage.aux[k]?).getD false

/-- The actions of a LIVE stroke in stroke order; true when a CHECK fails, which ends them (R137). -/
def fireLive (bank : BankId) (d : Direction) (p1 : Int) : List (Nat × CamPoint) → State → State × Bool
  | [], s => (s, false)
  | (i, p) :: l, s =>
    let t := s.markFired i
    match p.action with
    | .auxOn k => fireLive bank d p1 l (t.setAux k true)
    | .auxOff k => fireLive bank d p1 l (t.setAux k false)
    | .mark => fireLive bank d p1 l (t.report (.camMark bank i d p.position p1))
    | .check k expected =>
      if t.auxInput k = expected then fireLive bank d p1 l t
      else ((t.report (.camCheckFailed bank i d p.position k expected (t.auxInput k) p1)).camEnd, true)

/-- The outcome of a point in a trial, with the level seen for a CHECK (R140). -/
def State.trialOutcome (s : State) (a : CamAction) : TrialOutcome × Option Bool :=
  match a with
  | .auxOn _ => (.wouldApply, none)
  | .auxOff _ => (.wouldApply, none)
  | .mark => (.wouldApply, none)
  | .check k expected =>
    if s.auxInput k = expected then (.checkPass, some (s.auxInput k)) else (.checkFail, some (s.auxInput k))

/-- One more of an outcome. -/
def TrialRecord.add (o : TrialOutcome) (r : TrialRecord) : TrialRecord :=
  match o with
  | .wouldApply => { r with wouldApply := r.wouldApply + 1 }
  | .checkPass => { r with checkPass := r.checkPass + 1 }
  | .checkFail => { r with checkFail := r.checkFail + 1 }
  | .notEvaluated => { r with notEvaluated := r.notEvaluated + 1 }

/-- Count an outcome in the trial record. -/
def State.countTrial (o : TrialOutcome) (s : State) : State :=
  s.modCam fun c => { c with trial := c.trial.map (TrialRecord.add o) }

/-- The points of a TRIAL stroke: reported and counted, not carried out (R140). -/
def State.fireTrial (bank : BankId) (d : Direction) (p1 : Int) (l : List (Nat × CamPoint)) (s : State) : State :=
  l.foldl
    (fun t e =>
      let o := t.trialOutcome e.2.action
      ((t.markFired e.1).report
        (.camTrial bank e.1 d e.2.position e.2.action (some p1) o.1 o.2 (t.nodeLost Config.lineNode))).countTrial o.1)
    s

/-- A hand-over of the current measured position (R136); true when a live CHECK fails. -/
def State.handOver (p1 : Int) (s : State) : State × Bool :=
  match s.cam.stroke with
  | none => (s, false)
  | some r =>
    let l := s.crossings r p1
    let t := s.modCam fun c => { c with stroke := some { r with previous := some p1 } }
    match r.bank with
    | none => (t, false)
    | some id => if r.live then fireLive id r.direction p1 l t else (t.fireTrial id r.direction p1 l, false)

/-! ## The end of a trial (R140) -/

/-- One NOT_EVALUATED report for every point that did not fire, in order of index, with no measured position
(log 54) and the line node as it stands at the end of the trial (log 72). -/
def State.reportUnfired (r : TrialRecord) (s : State) : State :=
  ((s.cam.bank r.bank).indexed.filter fun e => !r.fired.contains e.1).foldl
    (fun t e =>
      (t.report
        (.camTrial r.bank e.1 e.2.stroke e.2.position e.2.action none .notEvaluated none
          (t.nodeLost Config.lineNode))).countTrial .notEvaluated)
    s

/-- MGN tells CAM that the trial has ended. -/
def State.endTrial (ending : TrialEnding) (s : State) : State :=
  match s.cam.trial with
  | none => s
  | some r =>
    let t := (s.reportUnfired r).modBank r.bank fun x => { x with underTrial := false }
    let k := (t.cam.trial).getD r
    (t.report (.trialDone r.bank ending k.wouldApply k.checkPass k.checkFail k.notEvaluated)).modCam fun c =>
      { c with trial := none, stroke := none }

end Sys2Proof.Machine
end

