-- ==== Sys2Proof/Machine/Motion.lean ====
section
/-! DEFINITION. The Motion Generator (chapter 6): the drive link's frames, the drive state, the plan of a stroke
in whole micrometres and ticks, the start and the settle of a stroke, the quick stop, the trial. -/

namespace Sys2Proof.Machine

/-! ## Frames of the drive link (R112, Table 6-1) -/

/-- The setpoint frame as bytes. -/
def Setpoint.bytes (p : Setpoint) : List Byte :=
  let body : List Byte := [0x5A] ++ flag p.enable ++ i32 p.position ++ u8 p.sequence
  body ++ [checkByte body]

/-- A feedback frame that is valid: header, length, checksum, and the echo of the last setpoint sent. -/
def State.validFeedback (s : State) (bytes : List Byte) : Option Feedback :=
  match bytes, s.mgn.sent with
  | [h, b1, p3, p2, p1, p0, q, k], some sp =>
    if h = 0xA6 ∧ byteSum [h, b1, p3, p2, p1, p0, q, k] = 0 ∧ q.toNat = sp.sequence then
      some { ready := bit b1 0, fault := bit b1 1, position := signed32 (beNat [p3, p2, p1, p0]) }
    else none
  | _, _ => none

/-! ## The plan of a stroke (R118, R119) -/

/-- Integer square root by bits: the largest number below 2^k above r whose square is at most d. -/
def rootBits (d : Nat) : Nat → Nat → Nat
  | 0, r => r
  | k + 1, r => if (r + 2 ^ k) * (r + 2 ^ k) ≤ d then rootBits d k (r + 2 ^ k) else rootBits d k r

/-- The largest whole n with n² ≤ d, for d below 2^32. -/
def root (d : Nat) : Nat := rootBits d 16 0

/-- n of the trapezoid: the smaller of ⌊V/A⌋ and ⌊√⌊D/A⌋⌋. -/
def rampTicks (t : MotionSettings) (d : Nat) : Nat := min (t.velocity / t.acceleration) (root (d / t.acceleration))

/-- ⌈r/A⌉. -/
def ceilDiv (r a : Nat) : Nat := (r + a - 1) / a

/-- The plan of a stroke of distance d (R117 to R119). -/
def makePlan (t : MotionSettings) (dir : Direction) (origin target : Int) (d : Nat) : Plan :=
  if d < t.acceleration ∨ d = 0 then
    { direction := dir, origin := origin, target := target, distance := d, n := 0, peak := 0, cruise := 0,
      remainder := d, remainderTick := if d = 0 then none else some 1, total := if d = 0 then 0 else 1, sent := 0 }
  else
    let n := rampTicks t d
    let vp := n * t.acceleration
    let r0 := d - t.acceleration * (n * n)
    let c := r0 / vp
    let r := r0 - c * vp
    { direction := dir, origin := origin, target := target, distance := d, n := n, peak := vp, cruise := c,
      remainder := r
      remainderTick := if r = 0 then none else some (2 * n + c - ceilDiv r t.acceleration + 1)
      total := 2 * n - 1 + c + (if r = 0 then 0 else 1), sent := 0 }

/-- The velocity of tick k of a trapezoid without its remainder tick. -/
def Plan.profile (a : Nat) (p : Plan) (k : Nat) : Nat :=
  if k ≤ p.n then k * a else if k ≤ p.n + p.cruise then p.peak else (2 * p.n + p.cruise - k) * a

/-- The velocity of tick k (from 1) of a plan (R119). -/
def Plan.velocityAt (a : Nat) (p : Plan) (k : Nat) : Nat :=
  match p.remainderTick with
  | none => p.profile a k
  | some t => if k < t then p.profile a k else if k = t then p.remainder else p.profile a (k - 1)

/-- The commanded position after a tick of velocity v, limited to 0..S (R119). -/
def stepPosition (t : MotionSettings) (d : Direction) (p : Int) (v : Nat) : Int :=
  limitPosition t.stroke (match d with | .advance => p + v | .returning => p - v)

/-! ## Strokes (R117, R121) -/

/-- The distance to a target from the commanded position (R117). -/
def State.strokeDistance (s : State) (d : Direction) (target : Int) : Nat :=
  match d with
  | .advance => (target - s.mgn.commanded).toNat
  | .returning => (s.mgn.commanded - target).toNat

/-- A stroke starts: plan, enable, CAM's record, STROKE PLAN; MOVING, or SETTLING when the plan has no
ticks (R117). -/
def State.beginStroke (d : Direction) (target : Int) (s : State) : State :=
  let plan := makePlan s.mgn.settings d s.mgn.commanded target (s.strokeDistance d target)
  let t := s.modMgn fun m =>
    { m with
      plan := some plan, enable := true, errorCount := 0, peakError := 0, settleTime := 0, velocity := 0
      motion := if plan.total = 0 then .settling else .moving
      settleTimer := if plan.total = 0 then some m.settings.settle else none }
  (t.camBegin d true t.mgn.lastFeedback).report (.strokePlan plan)

/-- The last feedback lies within band of the plan's target, in SETTLING (R121). -/
def State.settled (s : State) : Bool :=
  s.mgn.motion == .settling &&
    (match s.mgn.plan, s.mgn.lastFeedback with
      | some p, some f => within s.mgn.settings.band p.target f
      | _, _ => false)

/-- STROKE END with the fields as they stand (R121, R123; log 26). -/
def State.reportStrokeEnd (d : Direction) (o : StrokeOutcome) (ticks : Nat) (s : State) : State :=
  s.report (.strokeEnd d o ticks s.mgn.commanded s.mgn.lastFeedback s.mgn.settleTime s.mgn.peakError)

/-- The stroke has settled (R121); its completion is handed to ISQ by the caller. -/
def State.settleStroke (s : State) : State :=
  match s.mgn.plan with
  | none => s
  | some p =>
    ((s.camEnd).reportStrokeEnd p.direction .settled p.sent).modMgn fun m =>
      { m with plan := none, settleTimer := none, motion := .atRest, velocity := 0 }

/-! ## Ending motion early (R123, R124) -/

/-- The end of a quick stop: STROKE END, at rest, and the trial's end for a trial (R123, R125, R127). -/
def State.finishQuick (q : QuickStop) (s : State) : State :=
  let t := (s.reportStrokeEnd q.direction .stopped q.ticks).modMgn fun m =>
    { m with motion := .atRest, velocity := 0, quick := none, enable := m.enable && !q.enableOff }
  match q.trial with
  | none => t
  | some e => t.endTrial e

/-- The velocity a quick stop starts from: 0 in SETTLING (R123). -/
def Mgn.stopVelocity (m : Mgn) : Nat := if m.motion = .settling then 0 else m.velocity

/-- A quick stop begins from an open stroke or a trial (R123): CAM's record closes, the plan goes; with v ≤ Q
it ends in the event. -/
def State.startQuick (ending : TrialEnding) (enableOff : Bool) (p : Plan) (s : State) : State :=
  let q : QuickStop :=
    { direction := p.direction, ticks := 0, trial := if s.mgn.motion = .trial then some ending else none,
      enableOff := enableOff }
  let v := s.mgn.stopVelocity
  let t := s.camEnd.modMgn fun m =>
    { m with plan := none, settleTimer := none, motion := .stopping, quick := some q, velocity := v }
  if v ≤ s.mgn.settings.quickStop then t.finishQuick q else t

/-- A quick stop is asked for (R123); a RESTART also takes the enable off at its end, or at once at rest
(R127). -/
def State.quickStop (ending : TrialEnding) (enableOff : Bool) (s : State) : State :=
  match s.mgn.motion, s.mgn.plan with
  | .atRest, _ => if enableOff then s.modMgn fun m => { m with enable := false } else s
  | .stopping, _ =>
    s.modMgn fun m => { m with quick := m.quick.map fun q => { q with enableOff := q.enableOff || enableOff } }
  | _, some p => s.startQuick ending enableOff p
  | _, none => s

/-- A drive cause ends the motion at once, a trial and its quick stop excepted (R124). STROKE END carries the ticks of
the motion it ends: a quick stop's own while one runs (log 26). -/
def State.endMotionAtOnce (s : State) : State :=
  match s.mgn.motion, s.mgn.plan, s.mgn.quick with
  | .moving, some p, _ => (s.camEnd.reportStrokeEnd p.direction .ended p.sent).modMgn
      fun m => { m with plan := none, settleTimer := none, motion := .atRest, velocity := 0 }
  | .settling, some p, _ => (s.camEnd.reportStrokeEnd p.direction .ended p.sent).modMgn
      fun m => { m with plan := none, settleTimer := none, motion := .atRest, velocity := 0 }
  | .stopping, _, some q =>
    match q.trial with
    | some _ => s
    | none =>
      (s.reportStrokeEnd q.direction .ended q.ticks).modMgn
        fun m => { m with quick := none, motion := .atRest, velocity := 0 }
  | _, _, _ => s

/-! ## The drive state (R113) -/

/-- The drive state a feedback shows. -/
def Feedback.drive (f : Feedback) : DriveState := if f.fault then .fault else if f.ready then .ready else .notReady

/-- The cause handed to ISQ at an entry. -/
def DriveState.cause : DriveState → Option Cause
  | .lost => some .driveLoss
  | .fault => some .driveFault
  | .notReady => some .driveFault
  | .ready => none

/-- The drive state takes a value: DRIVE STATE, and at LOST, FAULT and NOT_READY the enable goes off and the
motion ends. DRIVE STATE comes before STROKE END (log 70). The cause for ISQ is answered beside the state. -/
def State.enterDrive (d : DriveState) (s : State) : State × Option Cause :=
  if s.mgn.drive = d then (s, none)
  else
    let t := (s.modMgn fun m => { m with drive := d }).report
      (.driveState s.mgn.drive d s.mgn.commanded s.mgn.lastFeedback)
    match d.cause with
    | none => (t, none)
    | some c => ((t.modMgn fun m => { m with enable := false }).endMotionAtOnce, some c)

/-- The tick takes its feedback or finds it missing, and judges the drive (R112, R113). -/
def State.takeFeedback (s : State) : State × Option Cause :=
  match s.mgn.received with
  | none =>
    let t := s.modMgn fun m => { m with missed := satInc Config.lossCount m.missed }
    if t.mgn.missed = Config.lossCount then t.enterDrive .lost else (t, none)
  | some f =>
    (s.modMgn fun m => { m with received := none, missed := 0, lastFeedback := some f.position }).enterDrive f.drive

/-! ## The work of one tick -/

/-- The following-error check of a tick (R122): true when FOLLOWING is handed over. -/
def State.checkFollowing (f : Int) (s : State) : State × Bool :=
  match s.mgn.sent with
  | none => (s, false)
  | some sp =>
    if sp.enable then
      let e := (sp.position - f).natAbs
      let count := if s.mgn.settings.errorLimit < e then s.mgn.errorCount + 1 else 0
      let t := s.modMgn fun m => { m with peakError := max m.peakError e }
      if s.mgn.settings.persistence ≤ count then (t.modMgn fun m => { m with errorCount := 0 }, true)
      else (t.modMgn fun m => { m with errorCount := count }, false)
    else (s, false)

/-- The next velocity of the plan is applied; after the last one the stroke is in SETTLING with its timer
loaded (R120 step 4). -/
def State.movePlan (s : State) : State :=
  match s.mgn.plan with
  | none => s
  | some p =>
    let v := p.velocityAt s.mgn.settings.acceleration (p.sent + 1)
    let last : Bool := p.total ≤ p.sent + 1
    s.modMgn fun m =>
      { m with
        plan := some { p with sent := p.sent + 1 }
        commanded := stepPosition m.settings p.direction m.commanded v
        velocity := if last then 0 else v
        motion := if last then .settling else m.motion
        settleTimer := if last then some m.settings.settle else m.settleTimer }

/-- The next tick of a quick stop (R123): true when it has ended. -/
def State.moveQuick (s : State) : State × Bool :=
  match s.mgn.quick with
  | none => (s, false)
  | some q =>
    let v := s.mgn.velocity - s.mgn.settings.quickStop
    if v = 0 then (s.finishQuick q, true)
    else
      (s.modMgn fun m =>
        { m with
          quick := some { q with ticks := q.ticks + 1 }
          commanded := stepPosition m.settings q.direction m.commanded v
          velocity := v },
        false)

/-- The commanded position at rest with the enable off takes the feedback, but in HALTED (R115). -/
def State.followAtRest (f : Option Feedback) (s : State) : State :=
  match f with
  | none => s
  | some f =>
    if s.mgn.enable ∨ s.isq.line = .halted then s
    else
      s.modMgn fun m =>
        { m with commanded := if within m.settings.band 0 f.position then 0 else limitPosition m.settings.stroke f.position }

/-- The setpoint frame of the tick is sent (R112): the sequence advances by one. -/
def State.sendSetpoint (s : State) : State :=
  s.modMgn fun m =>
    { m with
      sent := some { sequence := m.sequence, enable := m.enable, position := m.commanded }
      sequence := (m.sequence + 1) % 256 }

/-! ## The trial (R125) -/

/-- One of the two strokes of a trial begins: its plan, its report, CAM's record. -/
def State.beginTrialStroke (d : Direction) (s : State) : State :=
  let stroke : Int := s.mgn.settings.stroke
  let origin : Int := match d with | .advance => 0 | .returning => stroke
  let target : Int := match d with | .advance => stroke | .returning => 0
  let plan := makePlan s.mgn.settings d origin target s.mgn.settings.stroke
  ((s.modMgn fun m =>
      { m with plan := some plan, velocity := 0, peakError := 0, settleTime := 0, commanded := origin }).camBegin
    d false (some origin)).report (.strokePlan plan)

/-- The trial starts: enable off, motion TRIAL, the advance planned. -/
def State.startTrial (s : State) : State :=
  (s.modMgn fun m => { m with enable := false, motion := .trial }).beginTrialStroke .advance

/-- One tick of a trial: the commanded position moves and is handed to CAM as the measured one; a stroke settles
in the tick of its last velocity, and the return follows the advance (R125; log 17). -/
def State.trialTick (s : State) : State :=
  match s.mgn.plan with
  | none => s
  | some p =>
    let v := p.velocityAt s.mgn.settings.acceleration (p.sent + 1)
    let t := s.modMgn fun m =>
      { m with
        plan := some { p with sent := p.sent + 1 }
        commanded := stepPosition m.settings p.direction m.commanded v
        velocity := v }
    let t := (t.handOver t.mgn.commanded).1
    if p.total ≤ p.sent + 1 then
      let t := t.camEnd.reportStrokeEnd p.direction .settled (p.sent + 1)
      match p.direction with
      | .advance => t.beginTrialStroke .returning
      | .returning =>
        (t.modMgn fun m => { m with plan := none, motion := .atRest, velocity := 0 }).endTrial .completed
    else t

end Sys2Proof.Machine
end

