-- ==== Sys2Proof/Machine/Halts.lean ====
section
/-! DEFINITION. The line state's own events (chapters 3 and 9): entering HALTED, secondary causes, the end of a
quick stop, hold-pending, the way to HELD. -/

namespace Sys2Proof.Machine

/-- LINE STATE with the line as it stands (R44). -/
def State.reportLine (why : LineReason) (s : State) : State :=
  s.report (.lineState s.isq.line (if s.isq.line = .running then s.isq.phase else none) why)

/-- The line goes to HELD: hold-pending is cleared and the wait ends (R44, R45, R54). -/
def State.goHeld (why : LineReason) (s : State) : State :=
  (s.modIsq fun q => { q with line := .held, phase := none, holdPending := false, waitTimer := none }).reportLine why

/-- Hold-pending is set in RUNNING: in WAIT the line goes to HELD at once (R45, R49, R50). In the other line states
it has no effect (R44). -/
def State.setHold (why : LineReason) (s : State) : State :=
  if s.inWait then s.goHeld why
  else if s.isq.line = .running then s.modIsq fun q => { q with holdPending := true }
  else s

/-- The index in hand halts (R64): a stroke is quick-stopped, the phase's valve work ends, the record is made. The
enable goes off at the end of a RESTART's quick stop (R127). -/
def State.enterHalted (c : Cause) (positions : List Nat) (s : State) : State :=
  match s.isq.phase with
  | none => s
  | some ph =>
    let t := s.quickStop .stopped (c == .restart)
    let t := t.endPhaseWork
    let r : HaltRecord :=
      { cause := c, phase := ph, bar := t.mgn.commanded, stopping := t.mgn.motion == .stopping
        positions := positions, secondary := [], indexCount := t.prg.indexCount }
    let t := t.modIsq fun q =>
      { q with
        line := .halted, phase := none, holdPending := true, waitTimer := none, haltRecord := some r
        haltCount := satInc Config.maxHalts q.haltCount }
    (t.reportLine .halt).report (.halted r)

/-- A cause that arises while HALTED joins the secondary list or is dropped (R65). -/
def State.addCause (c : Cause) (positions : List Nat) (s : State) : State :=
  match s.isq.haltRecord with
  | none => s
  | some r =>
    if r.secondary.length < Config.maxSecondary then
      (s.modIsq fun q =>
          { q with haltRecord := some { r with secondary := r.secondary ++ [(c, positions)] } }).report
        (.haltAdded c positions true)
    else s.report (.haltAdded c positions false)

/-- A halt cause is handed to ISQ (R64, R65): it halts an index, adds to a halt, and does nothing in WAIT, HELD
and UNCONFIGURED. -/
def State.raiseCause (c : Cause) (positions : List Nat) (s : State) : State :=
  if s.inIndex then s.enterHalted c positions
  else if s.isq.line = .halted then s.addCause c positions
  else s

/-- MGN hands ISQ the end of a halt's quick stop (R154): the bar position is rewritten and HALT SETTLED queued. -/
def State.haltSettled (s : State) : State :=
  match s.isq.haltRecord with
  | none => s
  | some r =>
    if s.isq.line = .halted ∧ r.stopping then
      (s.modIsq fun q => { q with haltRecord := some { r with bar := s.mgn.commanded, stopping := false } }).report
        (.haltSettled r.cause r.phase s.mgn.commanded r.secondary)
    else s

end Sys2Proof.Machine
end

