-- ==== Sys2Proof/Machine/Feed.lean ====
section
/-! DEFINITION. The Feed Unit (chapter 8): the position-0 state, starting a feed, seating, reading, resolution,
feed faults and the load hold, the waiting pallet. -/

namespace Sys2Proof.Machine

/-! ## The position-0 state (R141, R149, R150) -/

/-- The load-wait timer after a change: loaded at entry to AWAITING_BLOCK, kept inside it, stopped outside. -/
def Fdu.waitTimer (l : LoadState) (f : Fdu) : Option Nat :=
  match l with
  | .awaitingBlock => if f.state = .awaitingBlock then f.loadWait else some (f.settings.loadWait * Config.second)
  | .empty => none
  | .feeding => none
  | .seating => none
  | .reading => none
  | .ready => none
  | .foreign => none

/-- The position-0 state and the load hold take values: LOAD STATE when either changes (log 29), and PRG's load
check when the state does (R38, R141). -/
def State.setLoad (l : LoadState) (hold : Bool) (s : State) : State :=
  let t := s.modFdu fun f => { f with state := l, loadHold := hold, loadWait := f.waitTimer l }
  if s.fdu.state = l then
    if s.fdu.loadHold = hold then t else t.report (.loadState s.fdu.state l (s.slot 0) hold)
  else (t.report (.loadState s.fdu.state l (s.slot 0) hold)).loadCheck

/-- The position-0 state changes alone. -/
def State.toLoad (l : LoadState) (s : State) : State := s.setLoad l s.fdu.loadHold

/-- The load hold is cleared (R149). -/
def State.clearLoadHold (s : State) : State := s.setLoad s.fdu.state false

/-! ## Feed faults (R149) -/

/-- The outputs, timers and requests of a feed end (R149, R153). -/
def State.endFeed (s : State) : State :=
  ((s.modFdu fun f =>
      { f with gate := false, read := false, feedTimer := none, readTimer := none, expected := none, mode := none
        }).withdrawRequest .seatLoad).withdrawRequest .releaseLoad

/-- A feed fails: its end, EMPTY or what R147 gives, the load hold, FEED FAULT after LOAD STATE (log 58)
and hold-pending (R45, R149). -/
def State.failFeedTo (l : LoadState) (stage : FeedStage) (why : FeedReason) (s : State) : State :=
  ((s.endFeed.setLoad l true).report (.feedFault stage why s.fdu.expected (s.image 0).present)).setHold .alarm

/-- A feed fails and position 0 is EMPTY. -/
def State.failFeed (stage : FeedStage) (why : FeedReason) (s : State) : State := s.failFeedTo .empty stage why

/-- The stage of the feed in hand (R149, R152, R153). -/
def Fdu.stage (f : Fdu) : FeedStage :=
  match f.state with
  | .feeding => if f.gate then .arrival else .locator
  | .seating => .seating
  | .reading => .read
  | .empty => .resolve
  | .awaitingBlock => .resolve
  | .ready => .resolve
  | .foreign => .resolve

/-! ## Reading the code (R146) -/

/-- The judgement of the four digit fields. -/
def readCode (i : InputImage) : ReadResult :=
  if 9 < i.d2 ∨ 9 < i.d1 ∨ 9 < i.d0 ∨ 9 < i.c then .noread .digit
  else if i.c ≠ (3 * i.d2 + 7 * i.d1 + 9 * i.d0) % 10 then .noread .check
  else
    let id := 100 * i.d2 + 10 * i.d1 + i.d0
    if 1 ≤ id ∧ id ≤ 250 then .id id else .noread .range

/-! ## Resolution (R147) -/

/-- The state of a resolved position 0 by what slot 0 holds: after a take, and after SLOT_TAKEN. -/
def State.resolvedState (s : State) : LoadState :=
  match s.slot 0 with
  | .empty => .empty
  | .foreign _ => .foreign
  | .pallet _ => if (s.blockAt 0).isSome then .ready else .awaitingBlock

/-- BLOCK CARRIED for a pallet resolved with a block (R35). -/
def State.reportCarried (s : State) : State :=
  match s.palletAt 0, s.blockAt 0 with
  | some id, some x => s.report (.blockCarried id x.serial x.disposition x.lock x.log.length)
  | _, _ => s

/-- A take resolves position 0 (R16, R35, R147): its report, LOAD STATE, BLOCK CARRIED, in that order (log 58). The load
check comes with LOAD STATE, so MISSING BLOCK is queued before BLOCK CARRIED (log 63). -/
def State.resolveTake (k : Nat) (verified : Bool) (r : Report) (s : State) : State :=
  let t := (s.takeOrdinal k verified).report r
  (t.toLoad t.resolvedState).reportCarried

/-- MARK FOREIGN resolves position 0 (R16, R147): its report comes before LOAD STATE (log 58). -/
def State.resolveForeign (id : Nat) (r : Report) (s : State) : State :=
  ((s.markForeign id).report r).toLoad .foreign

/-- The outcome of a read of an id, E being the expected pallet (R147 rows 1, 4, 5, 6; log 21). -/
def State.resolveId (e : Option Nat) (id : Nat) (s : State) : State :=
  match s.ordinal id with
  | some k =>
    if e = some id ∨ k ≤ 1 then s.resolveTake 1 true (.feedMatched id)
    else s.resolveTake k true (.feedReordered id k e)
  | none =>
    match s.record id with
    | none => s.resolveForeign id (.feedForeign id e)
    | some _ => (s.resolveForeign id (.feedConflict id (s.location id) e)).setHold .alarm

/-- Resolution: one event, one register operation (R147). The operation is not taken when slot 0 is not
EMPTY; SLOT_TAKEN then queues no BLOCK CARRIED (log 73). -/
def State.resolve (res : ReadResult) (s : State) : State :=
  let e := s.fdu.expected
  match res, e with
  | .noread _, none => s.failFeed .read .noExpected
  | _, _ =>
    if s.slot 0 ≠ .empty then s.failFeedTo s.resolvedState .resolve .slotTaken
    else
      let t := s.endFeed
      match res with
      | .noread why => t.resolveTake 1 false (.feedNoread (e.getD 0) why)
      | .id id => t.resolveId e id

/-! ## Seating and gate (R144, R145) -/

/-- READING begins: READ on and the read timer loaded (R146). -/
def State.enterReading (s : State) : State :=
  (s.toLoad .reading).modFdu fun f => { f with read := true, readTimer := some f.settings.read }

/-- SEATING begins: LOCATE at position 0; a condition that already holds enters READING at once (R97, R145). -/
def State.enterSeating (s : State) : State :=
  let t := (s.toLoad .seating).openRequest .seatLoad
  if t.requestMet .seatLoad then (t.closeRequest .seatLoad).enterReading else t

/-- The gate opens (R144). -/
def State.openGate (s : State) : State :=
  s.modFdu fun f => { f with gate := true, feedTimer := some (f.settings.feed * Config.second) }

/-- The position-0 locator is commanded out and shown out (R144). -/
def State.loadLocatorOut (s : State) : Bool :=
  s.commandedSide (.locator 0) == some .disengage && readPair (s.image 0).locIn (s.image 0).locOut == .second

/-- FEEDING begins: the gate at once, or the locator first (R144). -/
def State.enterFeeding (s : State) : State :=
  let t := s.toLoad .feeding
  if t.loadLocatorOut then t.openGate
  else
    let t := t.openRequest .releaseLoad
    if t.requestMet .releaseLoad then (t.closeRequest .releaseLoad).openGate else t

/-- A feed starts in a mode (R143): FEED START comes before LOAD STATE (log 58). -/
def State.startFeed (m : FeedMode) (s : State) : State :=
  let t := (s.modFdu fun f => { f with expected := s.prg.queue.head?, mode := some m }).report
    (.feedStart m s.prg.queue.head?)
  match m with
  | .gate => t.enterFeeding
  | .inPlace => t.enterSeating

/-- The mode in which the start conditions hold (R143). -/
def State.feedMode (s : State) : Option FeedMode :=
  if s.fdu.state = .empty ∧ s.feedPermit ∧ !s.fdu.loadHold ∧ !(s.nodeLost 0) then
    if (s.image 0).present then some .inPlace
    else if !s.prg.queue.isEmpty ∧ s.lineImage.head ∧ !(s.nodeLost Config.lineNode) then some .gate
    else none
  else none

/-- FDU judges the start conditions (R143). -/
def State.judgeFeed (s : State) : State :=
  match s.feedMode with
  | none => s
  | some m => s.startFeed m

/-! ## Inputs of position 0 (R144 to R149, R151) -/

/-- PRESENT rises at position 0: the arrival in FEEDING (R144). -/
def State.loadPresentRise (s : State) : State :=
  if s.fdu.state = .feeding then
    ((s.withdrawRequest .releaseLoad).modFdu fun f => { f with gate := false, feedTimer := none }).enterSeating
  else s

/-- PRESENT drops at position 0: the load hold is cleared, a feed past its arrival fails, a FOREIGN pallet has been
taken away (R145, R146, R148, R149). In SEATING and READING R149 has the one event both clear the hold, as a drop, and set
it, as a FEED FAULT, in no given order: that it is cleared first and then set, so that the drop leaves it set, is the
model's choice (log 77). FOREIGN REMOVED comes before the LOAD STATE of the change to EMPTY (log 58). -/
def State.loadPresentDrop (s : State) : State :=
  let t := s.clearLoadHold
  match s.fdu.state with
  | .seating => t.failFeed .seating .presentLost
  | .reading => t.failFeed .read .presentLost
  | .foreign => (t.clearLoad.report (.foreignRemoved (s.foreignId.getD 0))).toLoad .empty
  | .empty => t
  | .feeding => t
  | .awaitingBlock => t
  | .ready => t

/-- HEAD drops: with PRESENT at position 0 off the load hold is cleared (R149), also where a FEED FAULT of the same ring
frame has just set it, since the line node's changes are delivered last: the model's choice (logs 9, 77). -/
def State.headDrop (s : State) : State := if (s.image 0).present then s else s.clearLoadHold

/-- The answer toggle changes: the answer, in READING (R146). -/
def State.codeAnswer (s : State) : State :=
  if s.fdu.state = .reading then
    (s.modFdu fun f => { f with read := false, readTimer := none }).resolve (readCode (s.image 0))
  else s

/-- The loss of node a as FDU takes it (R152). -/
def State.feedNodeLost (a : Nat) (s : State) : State :=
  if (a = 0 ∧ s.fdu.state.inFeed) ∨ (a = Config.lineNode ∧ s.fdu.state = .feeding) then
    s.failFeed s.fdu.stage .nodeLoss
  else s

/-- The outcome DONE of a position request of the Feed Unit (R144, R145). -/
def State.feedRequestDone (id : RequestId) (s : State) : State :=
  match id, s.fdu.state with
  | .releaseLoad, .feeding => s.openGate
  | .seatLoad, .seating => s.enterReading
  | _, _ => s

/-- The outcome TIMEOUT of a position request of the Feed Unit (R144, R145). -/
def State.feedRequestTimeout (id : RequestId) (s : State) : State :=
  match id, s.fdu.state with
  | .releaseLoad, .feeding => s.failFeed .locator .timeout
  | .seatLoad, .seating => s.failFeed .seating .timeout
  | _, _ => s

/-- The waiting pallet is declared empty (R150). -/
def State.declareEmpty (s : State) : State := s.toLoad .ready

/-- A RESTART aborts a feed in hand (R153): FEED ABORTED comes after LOAD STATE (log 58). -/
def State.feedRestart (s : State) : State :=
  if s.fdu.state.inFeed then
    (s.endFeed.toLoad .empty).report (.feedAborted s.fdu.stage s.fdu.expected)
  else s

end Sys2Proof.Machine
end

