-- ==== Sys2Proof/Machine/Stations.lean ====
section
/-! DEFINITION. The Station Units (chapter 4): faults, completion, abandoning, the SEATED decision, clearing a
fault, input changes, RESTART; and the end of a valve pulse, whose top-up reading faults a station (R95, R108). -/

namespace Sys2Proof.Machine

/-! ## Faults (R83, R85) -/

/-- The resume of a fault taken in a state (R83). -/
def UnitState.resume : UnitState → Resume
  | .vacant => .vacant
  | .complete => .complete
  | .working => .operation
  | .late => .operation
  | .abandoning => .abandon
  | .seated => .decision
  | .faulted => .decision

/-- The unit enters FAULTED with a fault record; START stays as it is (R83, R89). -/
def StationUnit.takeFault (c : FaultCause) (u : StationUnit) : StationUnit :=
  { u with
    state := .faulted, stage1 := none, stage2 := none, restartWait := false
    fault := some
      { cause := c, clampLost := c == .clampLoss, resume := u.state.resume, doneWhileFaulted := false,
        reclamp := false } }

/-- A FAULTED unit takes a further cause: clamp lost is noted, and a re-clamp in progress is cancelled with the new
cause (R83, R89). -/
def FaultRecord.add (c : FaultCause) (f : FaultRecord) : FaultRecord :=
  { f with
    clampLost := f.clampLost || c == .clampLoss
    cause := if f.reclamp then c else f.cause
    reclamp := false }

/-- STATION FAULT (R83). -/
def State.reportFault (k : Nat) (c : FaultCause) (state : UnitState) (added : Bool) (s : State) : State :=
  s.report (.stationFault k c state (s.palletAt k) ((s.unit k).operation.map Operation.program) added)

/-- A unit takes a fault cause (R83). -/
def State.unitFault (k : Nat) (c : FaultCause) (s : State) : State :=
  let u := s.unit k
  if u.state = .faulted then
    (s.modUnit k fun x => { x with fault := x.fault.map (FaultRecord.add c) }).reportFault k c .faulted true
  else (s.modUnit k (StationUnit.takeFault c)).reportFault k c u.state false

/-- A HOME drop outside the station's work (R85): the fault, and the cause for ISQ while the bar may be up. -/
def State.toolMoved (k : Nat) (s : State) : State :=
  let t := s.unitFault k .toolMoved
  if s.barPhase then t.raiseCause .toolMoved [k] else t

/-- A LEVEL-mode unit with FLT on faults anew (R84, R88, R93). -/
def State.levelFault (k : Nat) (s : State) : State :=
  let u := s.unit k
  if u.config.kind ≠ .idle ∧ u.config.faultMode = .level ∧ (s.image k).flt ∧ u.state ≠ .faulted then
    s.unitFault k .fltInput
  else s

/-! ## Operations (R77, R78, R82) -/

/-- An operation is over: START off, both stages stopped, the record deleted, COMPLETE. -/
def StationUnit.finish (u : StationUnit) : StationUnit :=
  { u with state := .complete, start := false, restartWait := false, stage1 := none, stage2 := none, operation := none }

/-- The result of a completion: DONE for a MACHINE, PASS or FAIL by the input for a GAUGE (R78). -/
def completionResult (kind : Kind) (pass : Bool) : LogResult :=
  match kind with
  | .gauge => if pass then .pass else .fail
  | .machine => .done
  | .idle => .done

/-- The entry of an operation is appended, OPERATION END queued, and the unit is COMPLETE (R78, R82). -/
def State.endOperation (k : Nat) (o : Operation) (r : LogResult) (s : State) : State :=
  let a := s.append k o.program r
  ((a.1.report (.operationEnd k o.pallet o.program r (elapsedSince o.start s.timeBase) a.2))).modUnit k
    StationUnit.finish

/-- An operation completes (R78). -/
def State.completeOperation (k : Nat) (s : State) : State :=
  match (s.unit k).operation with
  | none => s
  | some o => s.endOperation k o (completionResult (s.unit k).config.kind (s.image k).pass)

/-- The abandon ends at HOME (R82); an absent pending result means a RESTART has written INTERRUPTED. -/
def State.endAbandon (k : Nat) (s : State) : State :=
  match (s.unit k).operation with
  | none => s.modUnit k StationUnit.finish
  | some o =>
    match o.result with
    | some r => s.endOperation k o r
    | none =>
      (s.report
          (.operationEnd k o.pallet o.program .interrupted (elapsedSince o.start s.timeBase) o.interruptTaken)).modUnit k
        StationUnit.finish

/-- START is withdrawn and the unit waits for HOME; with HOME on the abandon ends at once (R82). -/
def State.enterAbandoning (k : Nat) (s : State) : State :=
  let t := s.modUnit k fun u =>
    { u with state := .abandoning, start := false, restartWait := false, stage1 := none, stage2 := none }
  if (t.image k).home then t.endAbandon k else t

/-- The pending result of an operation (R74). -/
def StationUnit.setResult (r : LogResult) (u : StationUnit) : StationUnit :=
  { u with operation := u.operation.map fun o => { o with result := some r } }

/-- Stage 1 as it is loaded (R80). -/
def StationConfig.stage1Load (c : StationConfig) : Option Nat := some (c.p1 * Config.stageUnit)

/-- Stage 2 as it is loaded (R80). -/
def StationConfig.stage2Load (c : StationConfig) : Option Nat := some (c.p2 * Config.stageUnit)

/-- START is given (R77). -/
def State.startOperation (k id program : Nat) (serial : List Byte) (s : State) : State :=
  (s.modUnit k fun u =>
    { u with
      state := .working, start := true, restartWait := false, stage1 := u.config.stage1Load, stage2 := none
      operation := some
        { pallet := id, program := program, start := s.timeBase, doneSeenOff := !(s.image k).done, result := none,
          interruptTaken := false } }).report (.operationStart k id serial program)

/-! ## The SEATED decision (R28, R76, R90, R93) -/

/-- What a decision that would start writes instead of starting: nothing, FAILED or INTERRUPTED. -/
inductive DecisionEnd where
  | start | failed | interrupted
deriving DecidableEq, Repr

/-- The unit takes a state. -/
def State.setUnitState (k : Nat) (u : UnitState) (s : State) : State := s.modUnit k fun x => { x with state := u }

/-- The SEATED decision by the orders of Table 4-2. -/
def State.decide (k : Nat) (how : DecisionEnd) (s : State) : State :=
  let u := s.unit k
  match s.palletAt k with
  | none => s.setUnitState k .vacant
  | some id =>
    if u.config.kind = .idle then s.setUnitState k .vacant
    else
      match s.blockAt k with
      | none => s.setUnitState k .complete
      | some x =>
        let program := s.program x.variant k
        if program = 0 ∨ x.lock ∨ x.logged k then s.setUnitState k .complete
        else if x.disposition = .reject ∨ !u.inService then (s.append k program .skipped).1.setUnitState k .complete
        else
          match how with
          | .start => s.startOperation k id program x.serial
          | .failed => (s.append k program .failed).1.setUnitState k .complete
          | .interrupted => (s.append k program .interrupted).1.setUnitState k .complete

/-- A unit takes the end of VERIFY (R76). -/
def State.endOfVerify (k : Nat) (s : State) : State :=
  let u := s.unit k
  match u.state with
  | .vacant => s.decide k .start
  | .complete => s.decide k .start
  | .faulted =>
    let r : Resume := if (s.palletAt k).isSome ∧ u.config.kind ≠ .idle then .decision else .vacant
    s.modUnit k fun x => { x with fault := x.fault.map fun f => { f with resume := r } }
  | .seated => s
  | .working => s
  | .late => s
  | .abandoning => s

/-- ISQ hands the end of VERIFY to every unit 1..N (R60). -/
def State.endOfVerifyAll (s : State) : State := s.stationList.foldl (fun t k => t.endOfVerify k) s

/-! ## Clearing a fault (R88 to R90) -/

/-- RETRY acts by the resume (R89). -/
def State.resumeRetry (k : Nat) (r : Resume) (s : State) : State :=
  match r with
  | .vacant => s.setUnitState k .vacant
  | .complete => s.setUnitState k .complete
  | .decision => s.decide k .start
  | .operation =>
    s.modUnit k fun u =>
      { u with
        state := .working, start := false, restartWait := true, stage1 := u.config.stage1Load, stage2 := none
        operation := u.operation.map fun o => { o with doneSeenOff := false } }
  | .abandon => s.enterAbandoning k

/-- STATION ABANDONING (R81, R90). -/
def State.reportAbandoning (k : Nat) (why : AbandonReason) (s : State) : State :=
  match (s.unit k).operation with
  | none => s
  | some o => s.report (.stationAbandoning k o.pallet o.program why)

/-- ABANDON acts by the resume (R90): STATION ABANDONING comes before the OPERATION END of the same event (log 75). -/
def State.resumeAbandon (k : Nat) (r : Resume) (s : State) : State :=
  match r with
  | .vacant => s.setUnitState k .vacant
  | .complete => s.setUnitState k .complete
  | .decision => s.decide k .failed
  | .operation =>
    ((s.modUnit k fun u => (u.setResult .failed)).reportAbandoning k .fault).enterAbandoning k
  | .abandon => s.enterAbandoning k

/-- STATION CLEARED with the state reached, then the LEVEL-mode judgement (R84, R88). -/
def State.cleared (k : Nat) (a : ClearAction) (c : FaultCause) (s : State) : State :=
  (s.report (.stationCleared k a c (s.unit k).state)).levelFault k

/-- The clear goes on: the fault record is deleted and the resume acts (R89, R90). -/
def State.finishClear (k : Nat) (a : ClearAction) (f : FaultRecord) (s : State) : State :=
  let t := s.modUnit k fun u => { u with fault := none }
  match a with
  | .retry => (t.resumeRetry k f.resume).cleared k a f.cause
  | .abandon => (t.resumeAbandon k f.resume).cleared k a f.cause
  | .restart => t

/-- The outcome DONE of a re-clamp (R89); it is discarded when none is in progress. -/
def State.reclampDone (k : Nat) (s : State) : State :=
  match (s.unit k).fault with
  | none => s
  | some f => if f.reclamp then s.finishClear k .retry f else s

/-- The outcome TIMEOUT of a re-clamp (R89). -/
def State.reclampTimeout (k : Nat) (s : State) : State :=
  match (s.unit k).fault with
  | none => s
  | some f =>
    if f.reclamp then
      (s.modUnit k fun u => { u with fault := some { f with cause := .clampLoss, reclamp := false } }).reportFault k
        .clampLoss .faulted false
    else s

/-- A RETRY needs a re-clamp: clamp lost, a clamp station, a pallet in its slot (R89). -/
def State.needsReclamp (s : State) (k : Nat) (f : FaultRecord) : Bool := f.clampLost && s.isOccupied k

/-- The re-clamp is asked for; CLAMPED already on ends it in the event (R89, R97). -/
def State.startReclamp (k : Nat) (f : FaultRecord) (s : State) : State :=
  let t := (s.modUnit k fun u => { u with fault := some { f with reclamp := true } }).openRequest (.reclamp k)
  if t.requestMet (.reclamp k) then (t.closeRequest (.reclamp k)).reclampDone k else t

/-! ## Position-request outcomes (R105) -/

/-- The outcome DONE goes to the requester. -/
def State.requestDone (id : RequestId) (s : State) : State :=
  match id with
  | .reclamp k => (s.closeRequest id).reclampDone k
  | .seatLoad => (s.closeRequest id).feedRequestDone id
  | .releaseLoad => (s.closeRequest id).feedRequestDone id

/-- The outcome TIMEOUT goes to the requester. -/
def State.requestTimedOut (id : RequestId) (s : State) : State :=
  match id with
  | .reclamp k => (s.closeRequest id).reclampTimeout k
  | .seatLoad => (s.closeRequest id).feedRequestTimeout id
  | .releaseLoad => (s.closeRequest id).feedRequestTimeout id

/-! ## Inputs (R78, R79, R82, R84 to R86) -/

/-- A HOME drop by the unit's state (R79, R85). -/
def State.homeDrop (k : Nat) (s : State) : State :=
  let u := s.unit k
  match u.state with
  | .vacant => s.toolMoved k
  | .complete => s.toolMoved k
  | .faulted =>
    if u.fault.any (fun f => f.resume == .operation || f.resume == .abandon) then s else s.toolMoved k
  | .seated => s
  | .working => s
  | .late => s
  | .abandoning => s

/-- UNEXPECTED DONE, and DONE while faulted when the interrupted operation is seen finished (R79). -/
def State.unexpectedDone (k : Nat) (new : InputImage) (s : State) : State :=
  let u := s.unit k
  let t := s.report (.unexpectedDone k u.state)
  if u.state = .faulted ∧ new.home ∧ new.done then
    t.modUnit k fun x =>
      { x with fault := x.fault.map fun f => if f.resume = .operation then { f with doneWhileFaulted := true } else f }
  else t

/-- The unit judges DONE and HOME after a change, in WORKING and LATE (R78, R79). -/
def State.judgeCompletion (k : Nat) (old new : InputImage) (s : State) : State :=
  let t :=
    if old.done ∧ !new.done then
      s.modUnit k fun u => { u with operation := u.operation.map fun o => { o with doneSeenOff := true } }
    else s
  let u := t.unit k
  if new.done ∧ new.home ∧ u.operation.any (fun o => o.doneSeenOff) ∧ !u.restartWait then t.completeOperation k else t

/-- Changes of HOME and DONE (R79, R82), HOME first (log 9). -/
def State.homeDone (k : Nat) (old new : InputImage) (s : State) : State :=
  let t := if old.home ∧ !new.home then s.homeDrop k else s
  let abandoned : Bool := !old.home && new.home && (t.unit k).state == .abandoning
  let t := if abandoned then t.endAbandon k else t
  let odd : Bool := (!old.done && new.done) || (!old.home && new.home && new.done && !abandoned)
  match (t.unit k).state with
  | .working => t.judgeCompletion k old new
  | .late => t.judgeCompletion k old new
  | .vacant => if odd then t.unexpectedDone k new else t
  | .complete => if odd then t.unexpectedDone k new else t
  | .faulted => if odd then t.unexpectedDone k new else t
  | .abandoning => if !old.done && new.done then t.unexpectedDone k new else t
  | .seated => t

/-- FLT rises (R84). -/
def State.fltChange (k : Nat) (old new : InputImage) (s : State) : State :=
  if !old.flt ∧ new.flt then s.unitFault k .fltInput else s

/-- A CLAMPED drop under a set clamp watch with a pallet in the slot (R86). -/
def State.clampedDrop (k : Nat) (old new : InputImage) (s : State) : State :=
  if old.clamped ∧ !new.clamped ∧ (s.unit k).clampWatch ∧ (s.palletAt k).isSome then s.unitFault k .clampLoss else s

/-- The one event of a station node for its unit (R180). An IDLE unit takes none of these changes (R79, R84). -/
def State.unitInputs (k : Nat) (old new : InputImage) (s : State) : State :=
  if (s.unit k).config.kind = .idle then s
  else ((s.homeDone k old new).fltChange k old new).clampedDrop k old new

/-- The notice that a scan has carried an output image to the station's node: after a RETRY, START goes on again
once a scan has carried it off (R89); DONE seen off follows the current image (R74; log 19). -/
def State.unitNotice (k : Nat) (carried : OutputImage) (s : State) : State :=
  if (s.unit k).restartWait ∧ !carried.start then
    s.modUnit k fun u =>
      { u with
        start := true, restartWait := false
        operation := u.operation.map fun o => { o with doneSeenOff := !(s.image k).done } }
  else s

/-! ## Clamp watches (R86) -/

/-- The watches are set at the end of CLAMP. -/
def State.setClampWatches (s : State) : State :=
  s.stationList.foldl (fun t k => if t.isClampStation k then t.modUnit k fun u => { u with clampWatch := true } else t) s

/-- The watches are cleared when RELEASE begins. -/
def State.clearClampWatches (s : State) : State := s.modStu fun l => l.map fun u => { u with clampWatch := false }

/-! ## The end of a pulse (R95, R108) -/

/-- A pulse that a top-up started or joined. -/
def Pulse.toppedUp (p : Pulse) : Bool := p.requesters.contains (.topUp .a) || p.requesters.contains (.topUp .b)

/-- The reading of CLAMPED at the end of a top-up pulse, when the held interval is open at that moment (R108), opened again
since a RELEASE too (log 56). -/
def State.readTopUp (c : ChannelId) (p : Pulse) (s : State) : State :=
  match c with
  | .clamp k =>
    if p.toppedUp ∧ s.sct.held ∧ (s.palletAt k).isSome ∧ !(s.image k).clamped then s.unitFault k .clampLoss else s
  | .locator _ => s
  | .lift => s

/-- A pulse's timer has run out: the output goes off, a pending pulse starts (R95), a top-up reads (R108). -/
def State.endPulse (c : ChannelId) (s : State) : State :=
  match s.channel c with
  | none => s
  | some ch =>
    match ch.pulse with
    | none => s
    | some p =>
      if p.timer = 0 then
        let t :=
          match ch.pending with
          | none => s.modChannel c fun x => { x with pulse := none }
          | some w => s.startPulse c w.side w.requesters
        (t.readTopUp c p).topUpReload
      else s

/-! ## RESTART (R93) -/

/-- An operation in hand at RESTART: INTERRUPTED is appended at once and the unit waits for HOME. -/
def State.interrupt (k : Nat) (s : State) : State :=
  match (s.unit k).operation with
  | none => s.enterAbandoning k
  | some o =>
    let a := s.append k o.program .interrupted
    (a.1.modUnit k fun u =>
        { u with operation := some { o with result := none, interruptTaken := a.2 } }).enterAbandoning k

/-- A faulted unit at RESTART, by its resume: STATION CLEARED comes last (R93; log 75). -/
def State.restartFaulted (k : Nat) (f : FaultRecord) (s : State) : State :=
  let t := s.modUnit k fun u => { u with fault := none }
  let t :=
    match f.resume with
    | .vacant => t.setUnitState k .vacant
    | .complete => t.setUnitState k .complete
    | .decision => t.decide k .interrupted
    | .operation => t.interrupt k
    | .abandon => t.enterAbandoning k
  t.report (.stationCleared k .restart f.cause (t.unit k).state)

/-- What RESTART does to a unit in every state: START off, both stages stopped, a re-clamp in progress cancelled (R93). -/
def StationUnit.quiesce (u : StationUnit) : StationUnit :=
  { u with
    start := false, restartWait := false, stage1 := none, stage2 := none
    fault := u.fault.map fun f => { f with reclamp := false } }

/-- RESTART as one unit takes it, by the rows of R93; then the LEVEL-mode judgement (R84). -/
def State.unitRestart (k : Nat) (s : State) : State :=
  let u := s.unit k
  let q := s.modUnit k StationUnit.quiesce
  let t :=
    match u.state, u.fault with
    | .working, _ => q.interrupt k
    | .late, _ => q.interrupt k
    | .faulted, some f => q.restartFaulted k f
    | _, _ => q
  t.levelFault k

/-- RESTART as the units 1..N take it. -/
def State.unitsRestart (s : State) : State := s.stationList.foldl (fun t k => t.unitRestart k) s

end Sys2Proof.Machine
end

