-- ==== Sys2Proof/Machine/Sequence.lean ====
section
/-! DEFINITION. The phases of an index (R55 to R61, R159 to R162), each with what starts it, what its completion
does, and how it halts. The phases are defined from the last to the first, so that a completion can start the
next phase in its own event. -/

namespace Sys2Proof.Machine

/-- A phase starts: the line is in it and PHASE is queued (R55). -/
def State.enterPhase (ph : Phase) (s : State) : State :=
  (s.modIsq fun q => { q with phase := some ph }).report (.phase ph s.prg.indexCount)

/-- The line enters WAIT and a new wait begins (R54): LINE STATE, and no PHASE report (R44, R48, R61; log 51). -/
def State.enterWait (why : LineReason) (s : State) : State :=
  (s.modIsq fun q =>
    { q with line := .running, phase := some .wait, waitTimer := some (q.waitDelay * Config.second) }).reportLine why

/-- A stroke asked of MGN (R117): true when it has settled in the event of the request. A drive that is not READY
gives the failure DRIVE_FAULT. -/
def State.askStroke (d : Direction) (target : Int) (s : State) : State × Bool :=
  if s.driveReady then
    let t := s.beginStroke d target
    if t.settled then (t.settleStroke, true) else (t, false)
  else (s.raiseCause .driveFault [], false)

/-! ## RETURN (R61, R161) -/

/-- RECOVERED at the end of a recovered index (R161). -/
def State.reportRecovered (s : State) : State :=
  if s.isq.recovered then s.report (.recovered s.prg.indexCount .forward s.isq.shiftTaken s.isq.haltCount) else s

/-- The RETURN stroke has settled at 0: the index is over. -/
def State.endIndex (s : State) : State :=
  let t := (s.report (.indexDone s.prg.indexCount (elapsedSince s.isq.indexStart s.timeBase) s.isq.recovered)).reportRecovered
  if t.isq.holdPending then t.goHeld .indexEnd else t.enterWait .indexEnd

/-- RETURN starts, in an index and as the recovery stroke from a halt in RETURN. -/
def State.startReturn (s : State) : State :=
  let a := (s.enterPhase .returning).askStroke .returning 0
  if a.2 then a.1.endIndex else a.1

/-! ## VERIFY (R60, R162) -/

/-- VERIFY passes in course BACKWARD: the index closes without a shift. -/
def State.closeBackward (s : State) : State :=
  let t := (s.modPrg fun g => { g with openIndex := false }).loadCheck
  (t.report (.recovered t.prg.indexCount .backward false t.isq.haltCount)).goHeld .indexEnd

/-- VERIFY starts, and ends in its own event. -/
def State.startVerify (s : State) : State :=
  let t := s.enterPhase .verify
  if t.verifyFailures.isEmpty then
    match t.isq.course with
    | .backward => t.closeBackward
    | .forward => t.endOfVerifyAll.startReturn
  else t.raiseCause .map t.verifyFailures

/-! ## CLAMP, LOCATE, LOWER (R59, R162) -/

/-- CLAMP has ended: the held interval opens (R107), the clamp watches are set (R86), VERIFY starts. -/
def State.clampDone (s : State) : State := s.openHeld.setClampWatches.startVerify

/-- CLAMP starts. -/
def State.startClamp (s : State) : State :=
  let t := (s.enterPhase .clamp).openCommand .clamp
  if t.commandMet.isSome then t.closeCommand.clampDone else t

/-- LOCATE has ended. -/
def State.locateDone (s : State) : State := s.startClamp

/-- LOCATE starts. -/
def State.startLocate (s : State) : State :=
  let t := (s.enterPhase .locate).openCommand .locate
  if t.commandMet.isSome then t.closeCommand.locateDone else t

/-- LOWER has ended; in course BACKWARD the pallets stand on their fixtures again (R12, R39, R162). -/
def State.lowerDone (s : State) : State :=
  match s.isq.course with
  | .forward => s.startLocate
  | .backward => s.clearTransit.judgeWatch.startLocate

/-- LOWER starts. -/
def State.startLower (s : State) : State :=
  let a := (s.enterPhase .lower).openMovement .lower
  if a.2.isSome then a.1.lowerDone else a.1

/-! ## ADVANCE (R58, R121, R151, R161, R162) -/

/-- The advance has settled at S: the shift, the Feed Unit's EMPTY, LOWER. -/
def State.advanceDone (s : State) : State := (s.shift.toLoad .empty).startLower

/-- A stroke's completion, taken by phase and course (R55, R121). -/
def State.strokeDone (s : State) : State :=
  if s.isq.line = .running then
    match s.isq.phase, s.isq.course with
    | some .advance, .forward => s.advanceDone
    | some .advance, .backward => s.startLower
    | some .returning, _ => s.endIndex
    | _, _ => s
  else s

/-- The recovery stroke from a halt in ADVANCE (R160): no swap, the marks and the watch as they are. -/
def State.recoveryStroke (d : Direction) (target : Int) (s : State) : State :=
  let a := (s.enterPhase .advance).askStroke d target
  if a.2 then a.1.strokeDone else a.1

/-- ADVANCE starts (R58): the swap, the transit marks, the watch DEFERRED, the stroke to S. -/
def State.startAdvance (s : State) : State :=
  let t := (s.enterPhase .advance).swapBanks.setTransit.modPrg fun g => { g with watch := .deferred }
  let a := t.askStroke .advance t.mgn.settings.stroke
  if a.2 then a.1.strokeDone else a.1

/-! ## LIFT, WITHDRAW, RELEASE (R56, R57) -/

/-- LIFT has ended. The advance starts only with all three marks set (R57); otherwise the line stays in LIFT
(log 23). -/
def State.liftDone (s : State) : State :=
  let t := s.modIsq fun q => { q with lifted := true }
  if t.isq.allMarks then t.startAdvance else t

/-- LIFT starts. -/
def State.startLift (s : State) : State :=
  let a := (s.enterPhase .lift).openMovement .raise
  if a.2.isSome then a.1.liftDone else a.1

/-- WITHDRAW has ended. -/
def State.withdrawDone (s : State) : State := (s.modIsq fun q => { q with withdrawn := true }).startLift

/-- WITHDRAW starts. -/
def State.startWithdraw (s : State) : State :=
  let t := (s.enterPhase .withdraw).openCommand .withdraw
  if t.commandMet.isSome then t.closeCommand.withdrawDone else t

/-- RELEASE has ended. -/
def State.releaseDone (s : State) : State := (s.modIsq fun q => { q with released := true }).startWithdraw

/-- RELEASE starts: the units end their clamp watch (R86), SCT releases. -/
def State.startRelease (s : State) : State :=
  let t := (s.clearClampWatches.enterPhase .release).openCommand .release
  if t.commandMet.isSome then t.closeCommand.releaseDone else t

/-! ## Index start, judging (R52, R53, R56, R143) -/

/-- The index starts (R56, R159). -/
def State.startIndex (s : State) : State :=
  ((s.modIsq fun q =>
      { q with
        waitTimer := none, released := false, withdrawn := false, lifted := false, course := .forward
        seatEdit := false, haltCount := 0, recovered := false, indexStart := s.timeBase, shiftTaken := false
        }).modPrg fun g => { g with openIndex := true }).startRelease

/-- ISQ evaluates readiness (R53). -/
def State.judgeReady (s : State) : State := if s.ready then s.startIndex else s

/-- At the end of an event that can change a condition, FDU judges its start conditions and then ISQ readiness
(R53, R143; log 7). -/
def State.judge (s : State) : State := s.judgeFeed.judgeReady

/-! ## Completions from SCT (R55, R99, R102) -/

/-- A phase command has met its end: it closes, and ISQ takes the completion in the phase that asked (R55). -/
def State.commandDone (ph : Phase) (s : State) : State :=
  let t := s.closeCommand
  if t.runningIn (· == ph) then
    match ph with
    | .release => t.releaseDone
    | .withdraw => t.withdrawDone
    | .locate => t.locateDone
    | .clamp => t.clampDone
    | .wait => t
    | .lift => t
    | .advance => t
    | .lower => t
    | .verify => t
    | .returning => t
  else if ph = .clamp then t.openHeld
  else t

/-- SCT judges the wait of the open phase command (R97, R99). -/
def State.judgeCommand (s : State) : State :=
  match s.commandMet with
  | none => s
  | some ph => s.commandDone ph

/-- SCT judges the lift switches after a change, and ISQ takes a completion (R102). -/
def State.liftChanged (s : State) : State :=
  let a := s.judgeLift
  match a.2 with
  | none => a.1
  | some .raise => if a.1.runningIn (· == .lift) then a.1.liftDone else a.1
  | some .lower => if a.1.runningIn (· == .lower) then a.1.lowerDone else a.1

/-- SCT judges the waits of the open position requests (R97, R105). -/
def State.judgeRequests (s : State) : State :=
  (s.sct.requests.map PositionRequest.id).foldl
    (fun t id => if t.requestOpen id && t.requestMet id then t.requestDone id else t) s

/-! ## Failures (R99, R102) -/

/-- The phase timer of a command expires: the failing positions go to ISQ (R55, R99). -/
def State.commandExpired (s : State) : State :=
  match s.sct.command with
  | none => s
  | some c =>
    if c.timer = 0 then
      let failing := c.positions.filter fun p => !(s.endsWith c.phase p)
      let t := (s.modAllChannels (Channel.withdraw (.phase c.phase))).closeCommand
      if t.runningIn (· == c.phase) then t.raiseCause .phaseTimeout failing else t
    else s

/-- The phase a movement serves. -/
def LiftMove.phase : LiftMove → Phase
  | .raise => .lift
  | .lower => .lower

/-- The lift timer of a movement expires (R102; log 24): UNKNOWN, the movement ends with its pending pulse cancelled
(R64, R104), the failure goes to ISQ. -/
def State.movementExpired (s : State) : State :=
  match s.sct.movement with
  | none => s
  | some m =>
    if m.timer = 0 then
      let t := ((s.setLift .unknown).modAllChannels (Channel.withdraw .lift)).endMovement
      if t.runningIn (· == m.move.phase) then t.raiseCause .phaseTimeout [] else t
    else s

/-! ## The watches of ISQ (R63, R66) -/

/-- PRESENT drops at position p (R63): SEAT LOST comes before the LINE STATE of the hold (log 75). -/
def State.seatDrop (p : Nat) (s : State) : State :=
  match s.palletAt p with
  | none => s
  | some id =>
    match s.isq.line with
    | .unconfigured => s
    | .held => s.report (.seatLost p id)
    | .running =>
      if s.inWait then (s.report (.seatLost p id)).setHold .alarm
      else if s.runningIn Phase.seatWatched then s.raiseCause .seatLoss [p]
      else s
    | .halted => if s.haltPhase.any Phase.seatWatched then s.raiseCause .seatLoss [p] else s

/-- The loss of node a as ISQ takes it (R66). -/
def State.lineLosesNode (a : Nat) (s : State) : State :=
  let positions := if a = Config.lineNode then [] else [a]
  if s.isq.line = .halted ∨ s.runningIn Phase.usesNodes ∨ (a = Config.lineNode ∧ s.runningIn (· == .returning)) then
    s.raiseCause .nodeLoss positions
  else s

/-! ## Recovery (R159, R160) -/

/-- The phases from a phase to VERIFY. -/
def Phase.toVerify : Phase → List Phase
  | .release => [.release, .withdraw, .lift, .advance, .lower, .locate, .clamp, .verify]
  | .withdraw => [.withdraw, .lift, .advance, .lower, .locate, .clamp, .verify]
  | .lift => [.lift, .advance, .lower, .locate, .clamp, .verify]
  | .advance => [.advance, .lower, .locate, .clamp, .verify]
  | .lower => [.lower, .locate, .clamp, .verify]
  | .locate => [.locate, .clamp, .verify]
  | .clamp => [.clamp, .verify]
  | .verify => [.verify]
  | .wait => []
  | .returning => []

/-- The course after an accepted RECOVER (R159). -/
def courseAfter (dir : Course) (halt : Phase) (c : Course) : Course :=
  match dir with
  | .backward => .backward
  | .forward => if halt = .advance then .forward else c

/-- The first phase a BACKWARD recovery runs, none where it is refused (Table 9-2). -/
def Phase.backwardFrom : Phase → Option Phase
  | .release => some .clamp
  | .withdraw => some .locate
  | .lift => some .lower
  | .advance => some .advance
  | .wait => none
  | .lower => none
  | .locate => none
  | .clamp => none
  | .verify => none
  | .returning => none

/-- The phases an accepted RECOVER runs (Table 9-2), in the course it sets. -/
def recoveryPhases (dir : Course) (halt : Phase) (course : Course) (seatEdit : Bool) : List Phase :=
  match dir with
  | .backward => (halt.backwardFrom.map Phase.toVerify).getD []
  | .forward =>
    let first := if halt = .verify ∧ seatEdit then .clamp else halt
    let on := match course with | .forward => [.returning] | .backward => []
    if halt = .returning then [.returning] else first.toVerify ++ on

/-- The first phase of a recovery starts (R160). -/
def State.startRecovery (dir : Course) (ph : Phase) (s : State) : State :=
  match ph with
  | .release => s.startRelease
  | .withdraw => s.startWithdraw
  | .lift => s.startLift
  | .advance =>
    match dir with
    | .forward => s.recoveryStroke .advance s.mgn.settings.stroke
    | .backward => s.recoveryStroke .returning 0
  | .lower => s.startLower
  | .locate => s.startLocate
  | .clamp => s.startClamp
  | .verify => s.startVerify
  | .returning => s.startReturn
  | .wait => s

/-- An accepted RECOVER (R160). -/
def State.recover (dir : Course) (halt : Phase) (s : State) : State :=
  let course := courseAfter dir halt s.isq.course
  match recoveryPhases dir halt course s.isq.seatEdit with
  | [] => s
  | ph :: _ =>
    ((s.modIsq fun q =>
        { q with line := .running, phase := some ph, course := course, recovered := true, seatEdit := false
          }).reportLine .recover).startRecovery dir ph

end Sys2Proof.Machine
end

