-- ==== Sys2Proof/Machine/Tick.lean ====
section
/-! DEFINITION. One tick of the time base (R2, R120): every running timer counts down, then MGN does the tick's
work and sends its setpoint. -/

namespace Sys2Proof.Machine

/-! ## Timers (R2; log 1) -/

/-- A pulse counts down. -/
def Channel.tick (c : Channel) : Channel := { c with pulse := c.pulse.map fun p => { p with timer := p.timer - 1 } }

/-- The two supervision stages count down. -/
def StationUnit.tick (u : StationUnit) : StationUnit :=
  { u with stage1 := tickTimer u.stage1, stage2 := tickTimer u.stage2 }

/-- The stagger wait of a top-up counts down. -/
def TopUp.tick : TopUp → TopUp
  | .idle => .idle
  | .stagger t => .stagger (t - 1)
  | .groupB => .groupB

/-- The timers of SCT count down. -/
def Sct.tick (t : Sct) : Sct :=
  { t with
    locators := t.locators.map Channel.tick, clamps := t.clamps.map Channel.tick, lift := t.lift.tick
    command := t.command.map fun c => { c with timer := c.timer - 1 }
    clampWait := t.clampWait.map fun w => { w with timer := w.timer - 1 }
    movement := t.movement.map fun m => { m with timer := m.timer - 1 }
    requests := t.requests.map fun r => { r with timer := r.timer - 1 }
    topUpTimer := tickTimer t.topUpTimer, topUp := t.topUp.tick }

/-- The settle timer counts down, and the time in SETTLING up (R121). -/
def Mgn.tick (m : Mgn) : Mgn :=
  { m with
    settleTimer := tickTimer m.settleTimer
    settleTime := if m.motion = .settling then m.settleTime + 1 else m.settleTime }

/-- The three timers of FDU count down. -/
def Fdu.tick (f : Fdu) : Fdu :=
  { f with feedTimer := tickTimer f.feedTimer, readTimer := tickTimer f.readTimer, loadWait := tickTimer f.loadWait }

/-- The time base count rises by one and every running timer falls by one. -/
def State.countDown (s : State) : State :=
  { s with
    timeBase := wrapInc s.timeBase
    isq := { s.isq with waitTimer := tickTimer s.isq.waitTimer }
    stu := s.stu.map StationUnit.tick
    sct := s.sct.tick
    mgn := s.mgn.tick
    fdu := s.fdu.tick }

/-! ## The work of MGN (R120) -/

/-- Step 2 of R120: the following-error check, then the hand-over to CAM, each with its cause. -/
def State.measure (f : Int) (s : State) : State :=
  let a := s.checkFollowing f
  let t := if a.2 then a.1.raiseCause .following [] else a.1
  let b := t.handOver f
  if b.2 then b.1.raiseCause .camCheck [] else b.1

/-- A settle that holds is taken, and ISQ takes the completion (R121). -/
def State.takeSettle (s : State) : State := if s.settled then s.settleStroke.strokeDone else s

/-- Steps 2 to 4 of R120 in an open stroke whose motion was MOVING or SETTLING as the tick began. -/
def State.strokeTick (before : Motion) (f : Option Feedback) (s : State) : State :=
  let t := match f with | none => s | some f => s.measure f.position
  if before = .settling then (if f.isSome then t.takeSettle else t)
  else if t.mgn.motion = .moving then t.movePlan.takeSettle
  else t

/-- A tick of a quick stop: its end is handed to ISQ for a halt (R123, R154). -/
def State.quickTick (s : State) : State :=
  if s.mgn.motion = .stopping then
    let a := s.moveQuick
    if a.2 then a.1.haltSettled else a.1
  else s

/-- A drive cause is handed to ISQ; a quick stop of a halt that it ended is settled with it, after the cause has been added
(R113, R124, R154; log 71). -/
def State.driveCause (c : Cause) (s : State) : State :=
  let t := s.raiseCause c []
  if t.mgn.motion = .stopping then t else t.haltSettled

/-- The tick's work of MGN after the drive has been judged, by the motion state as the tick began. After a drive
cause the work of an open stroke is not done (R120 step 1). -/
def State.motionWork (before : Motion) (f : Option Feedback) (caused : Bool) (s : State) : State :=
  match before with
  | .atRest => s.followAtRest f
  | .trial => s.trialTick
  | .stopping => s.quickTick
  | .moving => if caused then s else s.strokeTick .moving f
  | .settling => if caused then s else s.strokeTick .settling f

/-- One tick of MGN (R120). The drive is judged first in every motion state, so DRIVE STATE carries the commanded position
as it was before the tick: before R115 changes it at rest (log 57), and before the velocity of a trial or of a quick stop is
applied, which no rule orders (R123, R125; log 67). -/
def State.motionTick (s : State) : State :=
  let a := s.takeFeedback
  let t := match a.2 with | none => a.1 | some c => a.1.driveCause c
  (t.motionWork s.mgn.motion s.mgn.received a.2.isSome).sendSetpoint

/-- The settle timer expires in SETTLING: the cause SETTLE (R121). -/
def State.settleExpired (s : State) : State :=
  if s.mgn.motion = .settling ∧ expired s.mgn.settleTimer then
    (s.modMgn fun m => { m with settleTimer := none }).raiseCause .settle []
  else s

end Sys2Proof.Machine
end

