-- ==== Sys2Proof/Machine/Messages.lean ====
section
/-! DEFINITION. The messages the part sends, as bytes (R169, R170, R175): the codes of every enumeration, the kind
and payload of every report, replies, and the contents of the query replies (R24, R67, R92, R177). -/

namespace Sys2Proof.Machine

/-! ## Enumerations (R170): the place in the list that defines them -/

/-- Table 2-1. -/
def Disposition.code : Disposition → Nat
  | .good => 0 | .suspect => 1 | .reject => 2

/-- Table 2-2. -/
def LogResult.code : LogResult → Nat
  | .done => 0 | .pass => 1 | .fail => 2 | .skipped => 3 | .timedOut => 4 | .failed => 5 | .interrupted => 6

/-- R39. -/
def Watch.code : Watch → Nat
  | .idle => 0 | .expecting => 1 | .present => 2 | .phantom => 3 | .deferred => 4

/-- R38. -/
def Disagreement.code : Disagreement → Nat
  | .phantom => 0 | .missing => 1

/-- R43. -/
def Line.code : Line → Nat
  | .unconfigured => 0 | .held => 1 | .running => 2 | .halted => 3

/-- R43. -/
def Phase.code : Phase → Nat
  | .wait => 0 | .release => 1 | .withdraw => 2 | .lift => 3 | .advance => 4 | .lower => 5 | .locate => 6
  | .clamp => 7 | .verify => 8 | .returning => 9

/-- R44. -/
def LineReason.code : LineReason → Nat
  | .configured => 0 | .run => 1 | .hold => 2 | .break => 3 | .stop => 4 | .alarm => 5 | .indexEnd => 6
  | .halt => 7 | .recover => 8 | .restart => 9

/-- R64. -/
def Cause.code : Cause → Nat
  | .stop => 0 | .restart => 1 | .following => 2 | .settle => 3 | .driveLoss => 4 | .driveFault => 5
  | .camCheck => 6 | .phaseTimeout => 7 | .map => 8 | .nodeLoss => 9 | .seatLoss => 10 | .toolMoved => 11

/-- R159. -/
def Course.code : Course → Nat
  | .forward => 0 | .backward => 1

/-- R47. -/
def SeatCheck.code : SeatCheck → Nat
  | .occupancy => 0 | .locators => 1 | .clamps => 2 | .node => 3

/-- Table 4-1. -/
def Kind.code : Kind → Nat
  | .machine => 0 | .gauge => 1 | .idle => 2

/-- Table 4-1. -/
def Group.code : Group → Nat
  | .a => 0 | .b => 1

/-- Table 4-1. -/
def FaultMode.code : FaultMode → Nat
  | .edge => 0 | .level => 1

/-- Table 4-1. -/
def OverrunPolicy.code : OverrunPolicy → Nat
  | .hold => 0 | .abandon => 1

/-- R73. -/
def UnitState.code : UnitState → Nat
  | .vacant => 0 | .seated => 1 | .working => 2 | .late => 3 | .abandoning => 4 | .complete => 5 | .faulted => 6

/-- R74: the pending result's own list, TIMEDOUT then FAILED. -/
def pendingCode : LogResult → Nat
  | .timedOut => 0
  | .failed => 1
  | .done => 1
  | .pass => 1
  | .fail => 1
  | .skipped => 1
  | .interrupted => 1

/-- R74. -/
def FaultCause.code : FaultCause → Nat
  | .fltInput => 0 | .overrun => 1 | .clampLoss => 2 | .nodeLoss => 3 | .toolMoved => 4

/-- R74. -/
def Resume.code : Resume → Nat
  | .vacant => 0 | .complete => 1 | .decision => 2 | .operation => 3 | .abandon => 4

/-- R88 lists RETRY and ABANDON; that RESTART (R93) comes after them is the model's choice (log 14). -/
def ClearAction.code : ClearAction → Nat
  | .retry => 0 | .abandon => 1 | .restart => 2

/-- No list defines them: OVERRUN (R81) then FAULT (R90), the model's choice (log 14). -/
def AbandonReason.code : AbandonReason → Nat
  | .overrun => 0 | .fault => 1

/-- No table or list defines the lift states. The order UP, DOWN, RISING, FALLING, UNKNOWN is the model's choice, and not
the order in which R102 comes to name them (log 14). -/
def LiftState.code : LiftState → Nat
  | .up => 0 | .down => 1 | .rising => 2 | .falling => 3 | .unknown => 4

/-- No list defines them: RAISE then LOWER, as R102 names them, the model's choice (log 14). -/
def LiftMove.code : LiftMove → Nat
  | .raise => 0 | .lower => 1

/-- No list defines the drive states: LOST, FAULT, READY, NOT_READY, as R113 comes to name them, the model's choice (log 14). -/
def DriveState.code : DriveState → Nat
  | .lost => 0 | .fault => 1 | .ready => 2 | .notReady => 3

/-- Table 7-1. -/
def Direction.code : Direction → Nat
  | .advance => 0 | .returning => 1

/-- No list defines them: SETTLED (R121), STOPPED (R123), ENDED (R124), the model's choice (log 14). -/
def StrokeOutcome.code : StrokeOutcome → Nat
  | .settled => 0 | .stopped => 1 | .ended => 2

/-- R130. -/
def BankId.code : BankId → Nat
  | .a => 0 | .b => 1

/-- R129. -/
def BankState.code : BankState → Nat
  | .open_ => 0 | .armed => 1 | .active => 2

/-- R131 (log 14). -/
def CamFault.code : CamFault → Nat
  | .aboveS => 0 | .order => 1

/-- R139, R140. -/
def TrialOutcome.code : TrialOutcome → Nat
  | .wouldApply => 0 | .checkPass => 1 | .checkFail => 2 | .notEvaluated => 3

/-- R140. -/
def TrialEnding.code : TrialEnding → Nat
  | .completed => 0 | .stopped => 1 | .restart => 2

/-- R141. -/
def LoadState.code : LoadState → Nat
  | .empty => 0 | .feeding => 1 | .seating => 2 | .reading => 3 | .awaitingBlock => 4 | .ready => 5 | .foreign => 6

/-- R143. -/
def FeedMode.code : FeedMode → Nat
  | .gate => 0 | .inPlace => 1

/-- R142. -/
def LoadPolicy.code : LoadPolicy → Nat
  | .wait => 0 | .runEmpty => 1

/-- R149. -/
def FeedStage.code : FeedStage → Nat
  | .locator => 0 | .arrival => 1 | .seating => 2 | .read => 3 | .resolve => 4

/-- The table of R149 gives them by stage: numbered as they first appear in it, the model's choice (log 14). -/
def FeedReason.code : FeedReason → Nat
  | .timeout => 0 | .nodeLoss => 1 | .presentLost => 2 | .noExpected => 3 | .slotTaken => 4

/-- No list defines them: the order in which R146 gives them, the model's choice (log 14). -/
def NoreadReason.code : NoreadReason → Nat
  | .digit => 0 | .check => 1 | .range => 2 | .timeout => 3

/-- R29. -/
def DiscardReason.code : DiscardReason → Nat
  | .noBlock => 0 | .locked => 1 | .duplicate => 2

/-- R14. -/
def Diversion.code : Diversion → Nat
  | .withdrawn => 0 | .inspection => 1 | .both => 2

/-- R175. -/
def ReportClass.code : ReportClass → Nat
  | .alarm => 0 | .event => 1 | .trace => 2

/-- No list defines them: POWER_ON (R178) then RESTART (R165), the model's choice (log 14). -/
def ResetCause.code : ResetCause → Nat
  | .powerOn => 0 | .restart => 1

/-- R54. -/
def BarDetail.code : BarDetail → Nat
  | .notHome => 0 | .liftNotDown => 1 | .driveNotReady => 2 | .lineNodeLost => 3

/-- Table 10-5. -/
def Reason.code : Reason → Byte
  | .unknownKind => 0x01 | .badLength => 0x02 | .badField => 0x03 | .wrongState => 0x04 | .locked => 0x05
  | .noBlock => 0x06 | .unknownPallet => 0x07 | .duplicate => 0x08 | .tableFull => 0x09 | .queueFull => 0x0A
  | .bankActive => 0x0B | .bankPending => 0x0D | .camInvalid => 0x0E | .camRange => 0x0F | .routeConflict => 0x10
  | .stillActive => 0x11 | .notFaulted => 0x12 | .mapMismatch => 0x13 | .notHome => 0x14 | .drive => 0x15
  | .noCams => 0x16 | .notHalted => 0x17 | .direction => 0x18

/-! ## Records and alternatives -/

/-- A location (R170). -/
def Location.bytes : Location → List Byte
  | .line p => u8 0 ++ u8 p
  | .queued k => u8 1 ++ u8 k
  | .offline => u8 2

/-- A discharge destination (R14). -/
def Destination.bytes : Destination → List Byte
  | .queue k => u8 0 ++ u8 k
  | .spur => u8 1

/-- A log entry (R27). -/
def LogEntry.bytes (e : LogEntry) : List Byte := u8 e.station ++ u8 e.program ++ u8 e.result.code

/-- A serial (R170). -/
def serialBytes (l : List Byte) : List Byte := listOf (fun b => [b]) l

/-- A block record (Table 2-1). -/
def Block.bytes (b : Block) : List Byte :=
  serialBytes b.serial ++ u8 b.variant ++ u8 b.disposition.code ++ flag b.lock ++ listOf LogEntry.bytes b.log

/-- The content of a map slot as LOAD STATE carries it (R6, R141). -/
def Slot.bytes : Slot → List Byte
  | .empty => u8 0
  | .pallet id => u8 1 ++ u8 id
  | .foreign id => u8 2 ++ u8 id

/-- A list of positions. -/
def positionBytes (l : List Nat) : List Byte := listOf u8 l

/-- A list of causes with their positions (R65). -/
def secondaryBytes (l : List (Cause × List Nat)) : List Byte :=
  listOf (fun e => u8 e.1.code ++ positionBytes e.2) l

/-- The halt record (R65): STOPPING is 0 and STILL 1. The halt phase takes its number from the phases of R43, with
RELEASE 1 (log 55). -/
def HaltRecord.bytes (r : HaltRecord) : List Byte :=
  u8 r.cause.code ++ u8 r.phase.code ++ i32 r.bar ++ u8 (if r.stopping then 0 else 1) ++ positionBytes r.positions ++
    secondaryBytes r.secondary ++ u32 r.indexCount

/-- A false readiness condition: its number, its position and its detail (R54; log 14). -/
def Condition.bytes : Condition → List Byte
  | .stations l => u8 1 ++ listOf (fun e => u8 e.1 ++ u8 e.2.code) l
  | .load (.state l) => u8 2 ++ u8 0 ++ u8 0 ++ u8 l.code
  | .load (.disagreement d) => u8 2 ++ u8 0 ++ u8 1 ++ u8 d.code
  | .load .nodeLost => u8 2 ++ u8 0 ++ u8 2
  | .unload p (.watch w) => u8 3 ++ u8 p ++ u8 0 ++ u8 w.code
  | .unload p .nodeLost => u8 3 ++ u8 p ++ u8 1
  | .room p spur => u8 4 ++ u8 p ++ u8 (if spur then 0 else 1)
  | .bar l => u8 5 ++ listOf (fun d => u8 d.code) l
  | .cams => u8 6

/-- The stroke plan record (R117). -/
def Plan.bytes (p : Plan) : List Byte :=
  u8 p.direction.code ++ i32 p.origin ++ i32 p.target ++ u32 p.distance ++ u16 p.n ++ u16 p.peak ++ u16 p.cruise ++
    u16 p.remainder ++ opt u16 p.remainderTick ++ u16 p.total ++ u16 p.sent

/-- The action of a cam point with its k and expected level (Table 7-1), as a point of CAM WRITE carries them
(log 54). -/
def CamAction.bytes : CamAction → List Byte
  | .auxOn k => u8 0 ++ opt u8 (some k) ++ opt flag none
  | .auxOff k => u8 1 ++ opt u8 (some k) ++ opt flag none
  | .check k e => u8 2 ++ opt u8 (some k) ++ opt flag (some e)
  | .mark => u8 3 ++ opt u8 none ++ opt flag none

/-! ## Reports (R175, Table 10-6) -/

/-- The kind of a report. -/
def Report.kind : Report → Byte
  | .reset .. => 0x80 | .overflow .. => 0x81 | .lineState .. => 0x82 | .phase .. => 0x83 | .waiting .. => 0x84
  | .indexDone .. => 0x85 | .seatLost .. => 0x86 | .halted .. => 0x87 | .haltAdded .. => 0x88
  | .haltSettled .. => 0x89 | .recovered .. => 0x8A | .palletDischarged .. => 0x8B | .logDiscarded .. => 0x8C
  | .dispositionChanged .. => 0x8D | .blockCarried .. => 0x8E | .phantomLoad .. => 0x8F | .phantomUnload .. => 0x8F
  | .missingBlock .. => 0x90 | .blockAgreed .. => 0x91 | .blockOut .. => 0x92 | .operationStart .. => 0x93
  | .operationEnd .. => 0x94 | .unexpectedDone .. => 0x95 | .late .. => 0x96 | .stationAbandoning .. => 0x97
  | .stationFault .. => 0x98 | .stationCleared .. => 0x99 | .stationService .. => 0x9A | .liftUnknown .. => 0x9B
  | .driveState .. => 0x9C | .strokePlan .. => 0x9D | .strokeEnd .. => 0x9E | .bankSwapped .. => 0x9F
  | .camMark .. => 0xA0 | .camCheckFailed .. => 0xA1 | .camTrial .. => 0xA2 | .trialDone .. => 0xA3
  | .loadState .. => 0xA4 | .feedStart .. => 0xA5 | .feedMatched .. => 0xA6 | .feedNoread .. => 0xA7
  | .feedReordered .. => 0xA8 | .feedForeign .. => 0xA9 | .feedConflict .. => 0xAA | .feedFault .. => 0xAB
  | .foreignRemoved .. => 0xAC | .loadWaitExpired .. => 0xAD | .feedAborted .. => 0xAE | .nodeLost .. => 0xAF
  | .nodeReturned .. => 0xB0

/-- The report's own fields, in the order its rule lists them. The last feedback position of DRIVE STATE and STROKE END is an
optional field (log 59); so are the measured position (log 54) and the level seen (log 66) of CAM TRIAL. The load hold is the
last byte of every LOAD STATE (log 74). -/
def Report.fields : Report → List Byte
  | .reset cause rate => u8 cause.code ++ u8 rate
  | .overflow a e t first => u16 a ++ u16 e ++ u16 t ++ u32 first
  | .lineState l ph why => u8 l.code ++ opt (fun p => u8 p.code) ph ++ u8 why.code
  | .phase ph k => u8 ph.code ++ u32 k
  | .waiting l => listOf Condition.bytes l
  | .indexDone k elapsed rec => u32 k ++ u32 elapsed ++ flag rec
  | .seatLost p id => u8 p ++ u8 id
  | .halted r => r.bytes
  | .haltAdded c l recorded => u8 c.code ++ positionBytes l ++ flag recorded
  | .haltSettled c ph bar l => u8 c.code ++ u8 ph.code ++ i32 bar ++ secondaryBytes l
  | .recovered k course shift halts => u32 k ++ u8 course.code ++ flag shift ++ u8 halts
  | .palletDischarged id dest cycles why unverified =>
    u8 id ++ dest.bytes ++ u32 cycles ++ opt (fun d => u8 d.code) why ++ flag unverified
  | .logDiscarded k program r why => u8 k ++ u8 program ++ u8 r.code ++ u8 why.code
  | .dispositionChanged id serial k r old new =>
    u8 id ++ serialBytes serial ++ u8 k ++ u8 r.code ++ u8 old.code ++ u8 new.code
  | .blockCarried id serial d lock entries => u8 id ++ serialBytes serial ++ u8 d.code ++ flag lock ++ u8 entries
  | .phantomLoad id => u8 0 ++ u8 id
  | .phantomUnload p id k => u8 p ++ opt u8 id ++ u32 k
  | .missingBlock id serial => u8 0 ++ u8 id ++ serialBytes serial
  | .blockAgreed p => u8 p
  | .blockOut id cycles unverified b => u8 id ++ u32 cycles ++ flag unverified ++ b.bytes
  | .operationStart k id serial program => u8 k ++ u8 id ++ serialBytes serial ++ u8 program
  | .operationEnd k id program r elapsed taken =>
    u8 k ++ u8 id ++ u8 program ++ u8 r.code ++ u32 elapsed ++ flag taken
  | .unexpectedDone k st => u8 k ++ u8 st.code
  | .late k id program elapsed => u8 k ++ u8 id ++ u8 program ++ u32 elapsed
  | .stationAbandoning k id program why => u8 k ++ u8 id ++ u8 program ++ u8 why.code
  | .stationFault k c st id program added =>
    u8 k ++ u8 c.code ++ u8 st.code ++ opt u8 id ++ opt u8 program ++ u8 (if added then 1 else 0)
  | .stationCleared k a c st => u8 k ++ u8 a.code ++ u8 c.code ++ u8 st.code
  | .stationService k inService => u8 k ++ flag inService
  | .liftUnknown up down move => flag up ++ flag down ++ opt (fun m => u8 m.code) move
  | .driveState old new commanded feedback => u8 old.code ++ u8 new.code ++ i32 commanded ++ opt i32 feedback
  | .strokePlan p => p.bytes
  | .strokeEnd d o ticks commanded feedback settling peak =>
    u8 d.code ++ u8 o.code ++ u16 ticks ++ i32 commanded ++ opt i32 feedback ++ u16 settling ++ i32 peak
  | .bankSwapped bank count opened => u8 bank.code ++ u8 count ++ opt (fun c => u8 c.code) opened
  | .camMark bank i d p measured => u8 bank.code ++ u8 i ++ u8 d.code ++ u32 p ++ i32 measured
  | .camCheckFailed bank i d p k expected seen measured =>
    u8 bank.code ++ u8 i ++ u8 d.code ++ u32 p ++ u8 k ++ flag expected ++ flag seen ++ i32 measured
  | .camTrial bank i d p a measured o seen lost =>
    u8 bank.code ++ u8 i ++ u8 d.code ++ u32 p ++ a.bytes ++ opt i32 measured ++ u8 o.code ++ opt flag seen ++ flag lost
  | .trialDone bank e w p f n => u8 bank.code ++ u8 e.code ++ u8 w ++ u8 p ++ u8 f ++ u8 n
  | .loadState old new slot hold => u8 old.code ++ u8 new.code ++ slot.bytes ++ flag hold
  | .feedStart m e => u8 m.code ++ opt u8 e
  | .feedMatched id => u8 id
  | .feedNoread id why => u8 id ++ u8 why.code
  | .feedReordered id k e => u8 id ++ u8 k ++ opt u8 e
  | .feedForeign id e => u8 id ++ opt u8 e
  | .feedConflict id l e => u8 id ++ l.bytes ++ opt u8 e
  | .feedFault st why e present => u8 st.code ++ u8 why.code ++ opt u8 e ++ flag present
  | .foreignRemoved id => u8 id
  | .loadWaitExpired id p => u8 id ++ u8 p.code
  | .feedAborted st e => u8 st.code ++ opt u8 e
  | .nodeLost a => u8 a
  | .nodeReturned a missed => u8 a ++ u16 missed

/-- The payload of a report frame: the common header and the fields (R175). -/
def QueuedReport.payload (q : QueuedReport) : List Byte :=
  u8 q.report.cls.code ++ u32 q.time ++ u32 q.indexCount ++ q.report.fields

/-- A report frame (R175). -/
def QueuedReport.bytes (q : QueuedReport) : List Byte := linkFrame q.report.kind 0 q.payload

/-! ## Replies (R169, Table 10-2) -/

/-- The payload of a reply. -/
def Answer.payload : Answer → List Byte
  | .ok content => 0x00 :: content
  | .accepted content => 0x01 :: content
  | .refused why detail => 0x03 :: why.code :: detail

/-- A reply frame: the kind of the request plus 40h, and its tag. -/
def Reply.bytes (r : Reply) : List Byte := linkFrame (r.kind + 0x40) r.tag r.answer.payload

/-- A BUSY frame (R171). -/
def BusyReply.bytes (r : BusyReply) : List Byte := linkFrame (r.kind + 0x40) r.tag [0x02]

/-! ## Query contents -/

/-- IDENT (R177). -/
def State.identContent (s : State) : List Byte :=
  Config.designation ++ u8 Config.revision ++ u8 s.clu.rate ++ u16 s.clu.counts.gap ++ u16 s.clu.counts.length ++
    u16 s.clu.counts.crc ++ u16 s.clu.counts.framing ++ u16 s.clu.counts.kind ++ u16 s.clu.counts.busy ++
    u16 s.clu.counts.dropped

/-- A bank in QUERY STATUS (R129). -/
def Bank.statusBytes (b : Bank) : List Byte := u8 b.state.code ++ u8 b.points.length ++ flag b.underTrial

/-- QUERY STATUS (R67, with R114, R129 and R159; log 14). -/
def State.statusContent (s : State) : List Byte :=
  u8 s.isq.line.code ++ opt (fun p => u8 p.code) s.isq.phase ++ u8 s.isq.course.code ++ flag s.isq.seatEdit ++
    u8 s.isq.haltCount ++ flag s.isq.holdPending ++ flag s.isq.released ++ flag s.isq.withdrawn ++
    flag s.isq.lifted ++ flag s.feedPermit ++ flag s.inTrial ++
    opt (listOf Condition.bytes) (if s.inWait then some s.falseConditions else none) ++
    opt (fun r : HaltRecord => r.bytes ++ flag (s.isq.line == .halted)) s.isq.haltRecord ++ s.cam.bankA.statusBytes ++
    s.cam.bankB.statusBytes ++ s.cam.aux.flatMap flag ++ i32 s.mgn.commanded ++ opt i32 s.mgn.lastFeedback ++
    u8 s.sct.liftState.code ++ u8 s.mgn.drive.code ++ flag s.mgn.enable

/-- A station configuration (Table 4-1). -/
def StationConfig.bytes (c : StationConfig) : List Byte :=
  u8 c.kind.code ++ opt (fun g => u8 g.code) c.group ++ u8 c.faultMode.code ++ u8 c.policy.code ++ u16 c.p1 ++
    u16 c.p2 ++ flag c.finalGauge

/-- An operation record (R74). -/
def Operation.bytes (o : Operation) : List Byte :=
  u8 o.pallet ++ u8 o.program ++ u32 o.start ++ flag o.doneSeenOff ++ opt (fun r => u8 (pendingCode r)) o.result

/-- A fault record (R74). -/
def FaultRecord.bytes (f : FaultRecord) : List Byte :=
  u8 f.cause.code ++ flag f.clampLost ++ u8 f.resume.code ++ flag f.doneWhileFaulted ++ flag f.reclamp

/-- The program number a unit drives: that of its operation while START is on, else 0 (R75). -/
def StationUnit.programOut (u : StationUnit) : Nat := if u.start then (u.operation.map Operation.program).getD 0 else 0

/-- The remaining time of the running stage (R92). -/
def StationUnit.remaining (u : StationUnit) : Option Nat :=
  match u.stage1 with
  | some t => some t
  | none => u.stage2

/-- QUERY STATION (R92). A node that is PENDING, or is in no scan list, shows as lost (log 53). -/
def State.stationContent (s : State) (k : Nat) : List Byte :=
  let u := s.unit k
  let i := s.image k
  u.config.bytes ++ u8 u.state.code ++ flag u.inService ++ flag u.clampWatch ++ flag i.home ++ flag i.done ++
    flag i.pass ++ flag i.flt ++ flag (s.nodeLost k) ++ flag u.start ++ u8 u.programOut ++
    opt Operation.bytes u.operation ++ opt u32 u.remaining ++ opt FaultRecord.bytes u.fault

/-- QUERY PALLET (R24, Table 1-4). -/
def State.palletContent (s : State) (r : Pallet) : List Byte :=
  u8 r.id ++ (s.location r.id).bytes ++ u32 r.cycles ++ flag r.withdraw ++ flag r.unverified ++ flag r.transit ++
    opt Block.bytes r.block

/-- A slot in QUERY MAP: a pallet id with its transit mark and whether it carries a block (R24). -/
def State.slotContent (s : State) : Slot → List Byte
  | .empty => u8 0
  | .pallet id =>
    u8 1 ++ u8 id ++ flag ((s.record id).any Pallet.transit) ++ flag (((s.record id).bind Pallet.block).isSome)
  | .foreign id => u8 2 ++ u8 id

/-- QUERY MAP (R24). -/
def State.mapContent (s : State) : List Byte :=
  opt u8 s.isq.stations ++ u32 s.prg.indexCount ++ flag s.prg.openIndex ++ listOf s.slotContent s.prg.map

/-- QUERY QUEUE (R24). -/
def State.queueContent (s : State) : List Byte :=
  u8 s.prg.capacity ++ u8 s.prg.queue.length ++ u8 s.reserved ++ listOf u8 s.prg.queue ++ listOf u8 s.prg.offline

/-- The reply to PALLET PLACE states the block of the pallet placed (R35; log 47). -/
def State.placeContent (s : State) (id : Nat) : List Byte := opt Block.bytes ((s.record id).bind Pallet.block)

/-- MAP_MISMATCH: each failing position with the checks it failed (R47). -/
def seatDetail (l : List (Nat × List SeatCheck)) : List Byte :=
  listOf (fun e => u8 e.1 ++ listOf (fun c => u8 c.code) e.2) l

end Sys2Proof.Machine
end

