-- ==== Sys2Proof/Machine/Operands.lean ====
section
/-! DEFINITION. The operands of a request: the fields of each request (Table 10-4) as bytes by R170, the reading of
a payload back into fields with the checks of R169 and R170, and the frames of requests (Table 10-1). Fields whose
values an owning block judges keep every value of their width. -/

namespace Sys2Proof.Machine

/-- A request of Table 10-4 with its fields as the payload carries them. -/
inductive Request where
  | ident
  | queryStatus
  | queryStation (station : Byte)
  | queryPallet (id : Byte)
  | queryMap
  | queryQueue
  | setLine (fields : LineFields)
  | setStation (fields : StationFields)
  | setRoute (route : Byte) (programs : List Byte)
  | camWrite (bank start : Byte) (points : List PointFields)
  | camArm (bank : Byte)
  | camDisarm (bank : Byte)
  | palletEnrol (place id : Byte)
  | palletPlace (id position : Byte) (block : Option BlockFields)
  | palletUnplace (position : Byte)
  | palletAdmit (id : Byte) (resetCount : Bool)
  | palletWithdraw (id : Byte)
  | palletRetire (id : Byte)
  | blockAssign (serial : List Byte) (variant : Byte)
  | blockEmpty
  | dispose (id disposition : Byte)
  | stationOut (station : Byte)
  | stationIn (station : Byte)
  | faultClear (station action : Byte)
  | run
  | hold
  | stop
  | recover (direction : Byte)
  | trial (bank : Byte)
  | reportMask (event trace : Bool)
  | echo (payload : List Byte)
  | restart
deriving DecidableEq, Repr

/-- The code of a request (Table 10-4). -/
def Request.kind : Request → Byte
  | .ident => 0x01 | .queryStatus => 0x02 | .queryStation _ => 0x03 | .queryPallet _ => 0x04 | .queryMap => 0x05
  | .queryQueue => 0x06 | .setLine _ => 0x07 | .setStation _ => 0x08 | .setRoute _ _ => 0x09
  | .camWrite _ _ _ => 0x0A | .camArm _ => 0x0B | .camDisarm _ => 0x0C | .palletEnrol _ _ => 0x0D
  | .palletPlace _ _ _ => 0x0E | .palletUnplace _ => 0x0F | .palletAdmit _ _ => 0x10 | .palletWithdraw _ => 0x11
  | .palletRetire _ => 0x12 | .blockAssign _ _ => 0x13 | .blockEmpty => 0x14 | .dispose _ _ => 0x15
  | .stationOut _ => 0x16 | .stationIn _ => 0x17 | .faultClear _ _ => 0x18 | .run => 0x19 | .hold => 0x1A
  | .stop => 0x1B | .recover _ => 0x1C | .trial _ => 0x1D | .reportMask _ _ => 0x1E | .echo _ => 0x1F
  | .restart => 0x20

/-! ## Fields as bytes (R170) -/

/-- A one-byte field. -/
def put8 (b : Byte) : List Byte := [b]

/-- A two-byte field, high byte first. -/
def put16 (v : BitVec 16) : List Byte := [v.extractLsb' 8 8, v.extractLsb' 0 8]

/-- A four-byte field, high byte first. -/
def put32 (v : BitVec 32) : List Byte :=
  [v.extractLsb' 24 8, v.extractLsb' 16 8, v.extractLsb' 8 8, v.extractLsb' 0 8]

/-- The fields of SET LINE in the order and widths of Table 10-3. -/
def encodeLine (f : LineFields) : List Byte :=
  opt put8 f.n ++ opt put8 f.c ++ opt put32 f.inspectionLimit ++ opt put32 f.stroke ++ opt put16 f.velocity ++
    opt put8 f.acceleration ++ opt put8 f.quickStop ++ opt put16 f.errorLimit ++ opt put8 f.errorPersistence ++
    opt put16 f.band ++ opt put16 f.settleTimeout ++ opt put16 f.pulseLength ++ opt put16 f.clampStagger ++
    opt put16 f.releaseTimeout ++ opt put16 f.locateTimeout ++ opt put16 f.clampTimeout ++ opt put16 f.liftTimeout ++
    opt put16 f.topUpInterval ++ opt put16 f.waitDelay ++ opt put8 f.feedTimeout ++ opt put16 f.readTimeout ++
    opt put16 f.loadWaitTimeout ++ opt put8 f.loadWaitPolicy

/-- The fields of SET STATION. -/
def encodeStation (f : StationFields) : List Byte :=
  [f.station, f.kind] ++ opt put8 f.group ++ [f.faultMode, f.policy] ++ put16 f.p1 ++ put16 f.p2 ++ flag f.finalGauge

/-- A cam point. -/
def encodePoint (p : PointFields) : List Byte :=
  put32 p.position ++ [p.stroke, p.action] ++ opt put8 p.k ++ opt flag p.level

/-- The block of PALLET PLACE. -/
def encodeBlock (b : BlockFields) : List Byte := listOf put8 b.serial ++ [b.variant, b.disposition]

/-- The payload of a request. -/
def Request.payload : Request → List Byte
  | .ident => [] | .queryStatus => [] | .queryStation k => [k] | .queryPallet id => [id] | .queryMap => []
  | .queryQueue => [] | .setLine f => encodeLine f | .setStation f => encodeStation f
  | .setRoute v l => v :: listOf put8 l
  | .camWrite b i l => [b, i] ++ listOf encodePoint l
  | .camArm b => [b] | .camDisarm b => [b] | .palletEnrol place id => [place, id]
  | .palletPlace id p b => [id, p] ++ opt encodeBlock b
  | .palletUnplace p => [p] | .palletAdmit id r => id :: flag r | .palletWithdraw id => [id]
  | .palletRetire id => [id] | .blockAssign serial v => listOf put8 serial ++ [v] | .blockEmpty => []
  | .dispose id d => [id, d] | .stationOut k => [k] | .stationIn k => [k] | .faultClear k a => [k, a] | .run => []
  | .hold => [] | .stop => [] | .recover d => [d] | .trial b => [b] | .reportMask e t => flag e ++ flag t
  | .echo l => l | .restart => []

/-- A request frame. -/
def Request.frame (r : Request) (tag : Byte) : Frame := { kind := r.kind, tag := tag, payload := r.payload }

/-! ## Reading a payload (R169, R170; log 13) -/

/-- A reader takes a field from the front of the bytes. Bytes that run out are BAD_LENGTH, a presence byte that is
neither 0 nor 1 is BAD_FIELD. -/
abbrev Reader (α : Type) := List Byte → Except Reason (α × List Byte)

/-- One byte. -/
def get8 : Reader Byte
  | [] => .error .badLength
  | b :: l => .ok (b, l)

/-- Two bytes, high byte first. -/
def get16 : Reader (BitVec 16)
  | b :: c :: l => .ok (b ++ c, l)
  | _ => .error .badLength

/-- Four bytes, high byte first. -/
def get32 : Reader (BitVec 32)
  | b :: c :: d :: e :: l => .ok (((b ++ c : BitVec 16) ++ (d ++ e : BitVec 16) : BitVec 32), l)
  | _ => .error .badLength

/-- An optional field. -/
def getOpt {α : Type} (f : Reader α) : Reader (Option α)
  | [] => .error .badLength
  | b :: l =>
    if b = 0 then .ok (none, l)
    else if b = 1 then
      match f l with
      | .ok (a, m) => .ok (some a, m)
      | .error e => .error e
    else .error .badField

/-- A number of entries. -/
def getMany {α : Type} (f : Reader α) : Nat → Reader (List α)
  | 0, l => .ok ([], l)
  | n + 1, l =>
    match f l with
    | .error e => .error e
    | .ok (a, m) =>
      match getMany f n m with
      | .ok (t, k) => .ok (a :: t, k)
      | .error e => .error e

/-- A list: its count byte and its entries. -/
def getList {α : Type} (f : Reader α) : Reader (List α)
  | [] => .error .badLength
  | b :: l => getMany f b.toNat l

/-- Nothing may be left over. -/
def finish {α : Type} : Except Reason (α × List Byte) → Except Reason α
  | .ok (a, []) => .ok a
  | .ok (_, _ :: _) => .error .badLength
  | .error e => .error e

/-- A flag or level byte, judged once the length is known to be right. -/
def asFlag (b : Byte) : Except Reason Bool :=
  if b = 0 then .ok false else if b = 1 then .ok true else .error .badField

/-- The fields of SET LINE. -/
def getLine : Reader LineFields := fun l => do
  let (n, l) ← getOpt get8 l
  let (c, l) ← getOpt get8 l
  let (inspectionLimit, l) ← getOpt get32 l
  let (stroke, l) ← getOpt get32 l
  let (velocity, l) ← getOpt get16 l
  let (acceleration, l) ← getOpt get8 l
  let (quickStop, l) ← getOpt get8 l
  let (errorLimit, l) ← getOpt get16 l
  let (errorPersistence, l) ← getOpt get8 l
  let (band, l) ← getOpt get16 l
  let (settleTimeout, l) ← getOpt get16 l
  let (pulseLength, l) ← getOpt get16 l
  let (clampStagger, l) ← getOpt get16 l
  let (releaseTimeout, l) ← getOpt get16 l
  let (locateTimeout, l) ← getOpt get16 l
  let (clampTimeout, l) ← getOpt get16 l
  let (liftTimeout, l) ← getOpt get16 l
  let (topUpInterval, l) ← getOpt get16 l
  let (waitDelay, l) ← getOpt get16 l
  let (feedTimeout, l) ← getOpt get8 l
  let (readTimeout, l) ← getOpt get16 l
  let (loadWaitTimeout, l) ← getOpt get16 l
  let (loadWaitPolicy, l) ← getOpt get8 l
  .ok ({ n, c, inspectionLimit, stroke, velocity, acceleration, quickStop, errorLimit, errorPersistence, band,
         settleTimeout, pulseLength, clampStagger, releaseTimeout, locateTimeout, clampTimeout, liftTimeout,
         topUpInterval, waitDelay, feedTimeout, readTimeout, loadWaitTimeout, loadWaitPolicy }, l)

/-- The fields of SET STATION, its flag byte as it stands. -/
def getStation : Reader (Byte × Byte × Option Byte × Byte × Byte × BitVec 16 × BitVec 16 × Byte) := fun l => do
  let (station, l) ← get8 l
  let (kind, l) ← get8 l
  let (group, l) ← getOpt get8 l
  let (faultMode, l) ← get8 l
  let (policy, l) ← get8 l
  let (p1, l) ← get16 l
  let (p2, l) ← get16 l
  let (f, l) ← get8 l
  .ok ((station, kind, group, faultMode, policy, p1, p2, f), l)

/-- A cam point, its level byte as it stands. -/
def getPoint : Reader (BitVec 32 × Byte × Byte × Option Byte × Option Byte) := fun l => do
  let (position, l) ← get32 l
  let (stroke, l) ← get8 l
  let (action, l) ← get8 l
  let (k, l) ← getOpt get8 l
  let (level, l) ← getOpt get8 l
  .ok ((position, stroke, action, k, level), l)

/-- The block of PALLET PLACE. -/
def getBlock : Reader BlockFields := fun l => do
  let (serial, l) ← getList get8 l
  let (variant, l) ← get8 l
  let (disposition, l) ← get8 l
  .ok ({ serial, variant, disposition }, l)

/-- A point once its level byte has been judged. -/
def pointOf (e : BitVec 32 × Byte × Byte × Option Byte × Option Byte) : Except Reason PointFields :=
  match e with
  | (position, stroke, action, k, none) => .ok { position, stroke, action, k, level := none }
  | (position, stroke, action, k, some b) =>
    match asFlag b with
    | .ok v => .ok { position, stroke, action, k, level := some v }
    | .error e => .error e

/-- Every point of a list, or the first refusal. -/
def pointsOf : List (BitVec 32 × Byte × Byte × Option Byte × Option Byte) → Except Reason (List PointFields)
  | [] => .ok []
  | e :: l =>
    match pointOf e, pointsOf l with
    | .ok a, .ok t => .ok (a :: t)
    | .error r, _ => .error r
    | _, .error r => .error r

/-- A payload that must be empty. -/
def noFields (r : Request) (l : List Byte) : Except Reason Request := if l = [] then .ok r else .error .badLength

/-- A payload of one byte. -/
def oneField (r : Byte → Request) : List Byte → Except Reason Request
  | [a] => .ok (r a)
  | _ => .error .badLength

/-- A payload of two bytes. -/
def twoFields (r : Byte → Byte → Request) : List Byte → Except Reason Request
  | [a, b] => .ok (r a b)
  | _ => .error .badLength

/-- SET STATION. -/
def parseStation (l : List Byte) : Except Reason Request := do
  let (station, kind, group, faultMode, policy, p1, p2, f) ← finish (getStation l)
  let finalGauge ← asFlag f
  .ok (.setStation { station, kind, group, faultMode, policy, p1, p2, finalGauge })

/-- SET ROUTE. -/
def parseRoute (l : List Byte) : Except Reason Request := do
  let (route, l) ← get8 l
  let programs ← finish (getList get8 l)
  .ok (.setRoute route programs)

/-- CAM WRITE. -/
def parseCamWrite (l : List Byte) : Except Reason Request := do
  let (bank, l) ← get8 l
  let (start, l) ← get8 l
  let raw ← finish (getList getPoint l)
  let points ← pointsOf raw
  .ok (.camWrite bank start points)

/-- PALLET PLACE. -/
def parsePlace (l : List Byte) : Except Reason Request := do
  let (id, l) ← get8 l
  let (position, l) ← get8 l
  let block ← finish (getOpt getBlock l)
  .ok (.palletPlace id position block)

/-- PALLET ADMIT (log 43). -/
def parseAdmit : List Byte → Except Reason Request
  | [id, f] =>
    match asFlag f with
    | .ok r => .ok (.palletAdmit id r)
    | .error e => .error e
  | _ => .error .badLength

/-- BLOCK ASSIGN. -/
def parseAssign (l : List Byte) : Except Reason Request := do
  let (serial, l) ← getList get8 l
  let variant ← finish (get8 l)
  .ok (.blockAssign serial variant)

/-- REPORT MASK. -/
def parseMask : List Byte → Except Reason Request
  | [e, t] =>
    match asFlag e, asFlag t with
    | .ok a, .ok b => .ok (.reportMask a b)
    | .error r, _ => .error r
    | _, .error r => .error r
  | _ => .error .badLength

/-- ECHO (R177). -/
def parseEcho (l : List Byte) : Except Reason Request :=
  if l.length < Config.maxPayload then .ok (.echo l) else .error .badLength

/-- The two checks of R169, and the flag bytes of R170: the request a kind and a payload spell. -/
def Request.parse (kind : Byte) (l : List Byte) : Except Reason Request :=
  match kind.toNat with
  | 0x01 => noFields .ident l
  | 0x02 => noFields .queryStatus l
  | 0x03 => oneField .queryStation l
  | 0x04 => oneField .queryPallet l
  | 0x05 => noFields .queryMap l
  | 0x06 => noFields .queryQueue l
  | 0x07 =>
    match finish (getLine l) with
    | .ok f => .ok (.setLine f)
    | .error e => .error e
  | 0x08 => parseStation l
  | 0x09 => parseRoute l
  | 0x0A => parseCamWrite l
  | 0x0B => oneField .camArm l
  | 0x0C => oneField .camDisarm l
  | 0x0D => twoFields .palletEnrol l
  | 0x0E => parsePlace l
  | 0x0F => oneField .palletUnplace l
  | 0x10 => parseAdmit l
  | 0x11 => oneField .palletWithdraw l
  | 0x12 => oneField .palletRetire l
  | 0x13 => parseAssign l
  | 0x14 => noFields .blockEmpty l
  | 0x15 => twoFields .dispose l
  | 0x16 => oneField .stationOut l
  | 0x17 => oneField .stationIn l
  | 0x18 => twoFields .faultClear l
  | 0x19 => noFields .run l
  | 0x1A => noFields .hold l
  | 0x1B => noFields .stop l
  | 0x1C => oneField .recover l
  | 0x1D => oneField .trial l
  | 0x1E => parseMask l
  | 0x1F => parseEcho l
  | 0x20 => noFields .restart l
  | _ => .error .unknownKind

end Sys2Proof.Machine
end

