-- ==== Sys2Proof/Machine/Requests.lean ====
section
/-! DEFINITION. What each request of Table 10-4 does, by its rule: the checks in their order, the answer, the
effect. A refused request changes no state (R1). -/

namespace Sys2Proof.Machine

/-- A refusal without detail: no state changes (R1). -/
def State.refuse (why : Reason) (s : State) : Answer × State := (.refused why [], s)

/-- A pallet id (Table 1-4). -/
def idOk (b : Byte) : Bool := 1 ≤ b.toNat && b.toNat ≤ 250

/-- A serial: 1 to 16 printable characters (Table 2-1). -/
def serialOk (l : List Byte) : Bool :=
  1 ≤ l.length && l.length ≤ 16 && l.all fun b => 0x20 ≤ b.toNat && b.toNat ≤ 0x7E

/-- The disposition a byte names. -/
def dispositionOf (b : Byte) : Option Disposition :=
  match b.toNat with
  | 0 => some .good
  | 1 => some .suspect
  | 2 => some .reject
  | _ => none

/-- The bank a byte names. -/
def bankOf (b : Byte) : Option BankId :=
  match b.toNat with
  | 0 => some .a
  | 1 => some .b
  | _ => none

/-- The read id of a FOREIGN slot 0. -/
def State.isForeignId (s : State) (id : Nat) : Bool := s.foreignId == some id

/-- A station of the configured line. -/
def State.stationInLine (s : State) (k : Nat) : Bool := 1 ≤ k && k ≤ s.n

/-! ## Queries (R24, R67, R92, R177) -/

/-- IDENT. -/
def State.doIdent (s : State) : Answer × State := (.ok s.identContent, s)

/-- QUERY STATUS. -/
def State.doQueryStatus (s : State) : Answer × State := (.ok s.statusContent, s)

/-- QUERY STATION: 1..N, or 1..24 in UNCONFIGURED. -/
def State.doQueryStation (station : Byte) (s : State) : Answer × State :=
  let top := s.isq.stations.getD Config.maxStations
  if 1 ≤ station.toNat ∧ station.toNat ≤ top then (.ok (s.stationContent station.toNat), s) else s.refuse .badField

/-- QUERY PALLET. -/
def State.doQueryPallet (id : Byte) (s : State) : Answer × State :=
  if !idOk id then s.refuse .badField
  else
    match s.record id.toNat with
    | none => s.refuse .unknownPallet
    | some r => (.ok (s.palletContent r), s)

/-- QUERY MAP. -/
def State.doQueryMap (s : State) : Answer × State := (.ok s.mapContent, s)

/-- QUERY QUEUE. -/
def State.doQueryQueue (s : State) : Answer × State := (.ok s.queueContent, s)

/-! ## SET LINE (R7, R46, R72, R98, R116, R134, R142, Table 10-3) -/

/-- The value a field gives, or the value in force when it is absent. -/
def given {w : Nat} (f : Option (BitVec w)) (old : Nat) : Nat := (f.map BitVec.toNat).getD old

/-- The field lies in a range, or is absent. -/
def inRange {w : Nat} (lo hi : Nat) (f : Option (BitVec w)) : Bool := f.all fun v => lo ≤ v.toNat && v.toNat ≤ hi

/-- The number of a clamped field joins the list when clamping changed it. -/
def noteClamp (no raw val : Nat) : List Nat := if raw = val then [] else [no]

/-- The new motion settings: V, then A at most V, then Q at least A (R116). -/
def newMotion (f : LineFields) (m : MotionSettings) : MotionSettings :=
  let v := clampTo 50 2000 (given f.velocity m.velocity)
  let a := min (clampTo 1 100 (given f.acceleration m.acceleration)) v
  let q := max (clampTo 1 200 (given f.quickStop m.quickStop)) a
  { stroke := given f.stroke m.stroke, velocity := v, acceleration := a, quickStop := q
    errorLimit := clampTo 10 20000 (given f.errorLimit m.errorLimit)
    persistence := clampTo 1 50 (given f.errorPersistence m.persistence)
    band := clampTo 5 500 (given f.band m.band), settle := clampTo 10 2000 (given f.settleTimeout m.settle) }

/-- A top-up interval: 0, or 5..600 s (R98). -/
def newTopUp (raw : Nat) : Nat := if raw = 0 then 0 else clampTo 5 600 raw

/-- The new settings of SCT (R98). -/
def newSeat (f : LineFields) (t : SeatSettings) : SeatSettings :=
  { pulse := clampTo 20 500 (given f.pulseLength t.pulse), stagger := clampTo 0 2000 (given f.clampStagger t.stagger)
    release := clampTo 100 10000 (given f.releaseTimeout t.release)
    locate := clampTo 100 10000 (given f.locateTimeout t.locate)
    clamp := clampTo 100 10000 (given f.clampTimeout t.clamp), lift := clampTo 100 10000 (given f.liftTimeout t.lift)
    topUp := newTopUp (given f.topUpInterval t.topUp) }

/-- The new waiting-report delay (R46). -/
def newDelay (f : LineFields) (old : Nat) : Nat := clampTo 1 600 (given f.waitDelay old)

/-- The new load-wait policy (R142), by its code. -/
def newPolicy (f : LineFields) (old : LoadPolicy) : LoadPolicy :=
  match f.loadWaitPolicy with
  | none => old
  | some b => if b = 0 then .wait else .runEmpty

/-- The new settings of FDU (R142). -/
def newFeed (f : LineFields) (t : FeedSettings) : FeedSettings :=
  { feed := clampTo 1 60 (given f.feedTimeout t.feed), read := clampTo 100 5000 (given f.readTimeout t.read)
    loadWait := clampTo 1 600 (given f.loadWaitTimeout t.loadWait), policy := newPolicy f t.policy }

/-- The numbers of the clamped fields, ascending (Table 10-3). -/
def State.clampedFields (f : LineFields) (s : State) : List Nat :=
  let m := s.mgn.settings
  let m' := newMotion f m
  let t := s.sct.settings
  let t' := newSeat f t
  let d := s.fdu.settings
  let d' := newFeed f d
  noteClamp 5 (given f.velocity m.velocity) m'.velocity ++ noteClamp 6 (given f.acceleration m.acceleration) m'.acceleration ++
    noteClamp 7 (given f.quickStop m.quickStop) m'.quickStop ++ noteClamp 8 (given f.errorLimit m.errorLimit) m'.errorLimit ++
    noteClamp 9 (given f.errorPersistence m.persistence) m'.persistence ++ noteClamp 10 (given f.band m.band) m'.band ++
    noteClamp 11 (given f.settleTimeout m.settle) m'.settle ++ noteClamp 12 (given f.pulseLength t.pulse) t'.pulse ++
    noteClamp 13 (given f.clampStagger t.stagger) t'.stagger ++ noteClamp 14 (given f.releaseTimeout t.release) t'.release ++
    noteClamp 15 (given f.locateTimeout t.locate) t'.locate ++ noteClamp 16 (given f.clampTimeout t.clamp) t'.clamp ++
    noteClamp 17 (given f.liftTimeout t.lift) t'.lift ++ noteClamp 18 (given f.topUpInterval t.topUp) t'.topUp ++
    noteClamp 19 (given f.waitDelay s.isq.waitDelay) (newDelay f s.isq.waitDelay) ++
    noteClamp 20 (given f.feedTimeout d.feed) d'.feed ++ noteClamp 21 (given f.readTimeout d.read) d'.read ++
    noteClamp 22 (given f.loadWaitTimeout d.loadWait) d'.loadWait

/-- The structural fields lie in their ranges, and N is given or known (R7, R46, R116, R142). -/
def State.structural (f : LineFields) (s : State) : Bool :=
  inRange 2 24 f.n && inRange 1 32 f.c && inRange 0 1000000 f.inspectionLimit && inRange 100000 1200000 f.stroke &&
    inRange 0 1 f.loadWaitPolicy && (f.n.isSome || s.isq.stations.isSome)

/-- A slot above the new unload position holds something (R7). -/
def State.shrinkBlocked (n : Nat) (s : State) : Bool := (s.prg.map.drop (n + 2)).any (· != .empty)

/-- A unit above the new N is at work or faulted (R72). -/
def State.unitBlocks (n : Nat) (s : State) : Bool := (s.stu.drop n).any fun u => !u.state.finished

/-- A point of the ACTIVE or ARMED bank lies above S (R134). -/
def State.pointAbove (stroke : Nat) (s : State) : Bool :=
  [s.cam.bankA, s.cam.bankB].any fun b => b.state != .open_ && b.points.any (fun p => Nat.blt stroke p.position)

/-- The line-state checks of SET LINE (R46). -/
def State.lineClosed (s : State) : Option Reason :=
  if s.isq.line = .running ∨ s.isq.line = .halted then some .wrongState
  else if s.isq.line = .held ∧ (!s.barHome ∨ s.inTrial) then some .notHome
  else none

/-- The checks of SET LINE on its fields (Table 10-3). -/
def State.fieldRefusal (f : LineFields) (s : State) : Option Reason :=
  let n := given f.n s.n
  if !(s.structural f) then some .badField
  else if s.shrinkBlocked n ∨ given f.c s.prg.capacity < s.prg.queue.length then some .badField
  else if s.unitBlocks n then some .wrongState
  else if f.stroke.isSome ∧ s.pointAbove (given f.stroke 0) then some .camRange
  else none

/-- The first check of SET LINE that fails. -/
def State.lineRefusal (f : LineFields) (s : State) : Option Reason := s.lineClosed.or (s.fieldRefusal f)

/-- The top-up timer after a change of its interval in an open held interval (R107). -/
def Sct.retime (t : SeatSettings) (x : Sct) : Option Nat :=
  if x.held then
    if t.topUp = 0 then none else if x.settings.topUp = 0 then t.topUpLoad else x.topUpTimer
  else x.topUpTimer

/-- The scan list of a line of N stations: known nodes are kept, others join PENDING (R179). -/
def relist (n : Nat) (l : List Node) : List Node :=
  (List.range (n + 2) ++ [Config.lineNode]).map fun a => (l.find? (·.addr == a)).getD (Node.initial a)

/-- The fields of SET LINE are written, block by block (R7, R32, R46, R72, R98, R111, R115, R116, R142, R179). -/
def State.writeLine (f : LineFields) (n : Nat) (s : State) : State :=
  { s with
    isq := { s.isq with stations := some n, waitDelay := newDelay f s.isq.waitDelay }
    prg :=
      { s.prg with
        map := (List.range (n + 2)).map fun i => (s.prg.map[i]?).getD .empty
        capacity := given f.c s.prg.capacity, inspectionLimit := given f.inspectionLimit s.prg.inspectionLimit }
    rtb := if n < s.n then s.rtb.map (fun r => r.take n ++ List.replicate (Config.maxStations - n) 0) else s.rtb
    stu := (List.range Config.maxStations).map fun i => if i < n then s.unit (i + 1) else StationUnit.initial
    sct :=
      { s.sct with
        locators := resizeChannels (n + 2) s.sct.locators, clamps := resizeChannels n s.sct.clamps
        settings := newSeat f s.sct.settings, topUpTimer := s.sct.retime (newSeat f s.sct.settings) }
    mgn :=
      { s.mgn with
        settings := newMotion f s.mgn.settings, commanded := limitPosition (newMotion f s.mgn.settings).stroke s.mgn.commanded }
    fdu := { s.fdu with settings := newFeed f s.fdu.settings }
    rgc := { s.rgc with nodes := relist n s.rgc.nodes } }

/-- The first accepted SET LINE takes the line to HELD (R43, R46). -/
def State.configured (first : Bool) (s : State) : State :=
  if first then (s.modIsq fun q => { q with line := .held }).reportLine .configured else s

/-- A pallet that waits with its timer expired is declared empty by a change to RUN_EMPTY (R150). -/
def State.policyChange (old : LoadPolicy) (s : State) : State :=
  if old = .wait ∧ s.fdu.settings.policy = .runEmpty ∧ s.fdu.state = .awaitingBlock ∧ s.fdu.loadWait = none then
    s.declareEmpty
  else s

/-- An accepted SET LINE (R46). -/
def State.applyLine (f : LineFields) (s : State) : State :=
  let n := given f.n s.n
  let t := (s.writeLine f n).configured (s.isq.line == .unconfigured)
  let t := if s.isq.stations = some n then t else t.judgeWatch
  ((t.policyChange s.fdu.settings.policy).releaseEmptyFixtures).topUpReload.judgeFeed

/-- SET LINE. -/
def State.doSetLine (f : LineFields) (s : State) : Answer × State :=
  match s.lineRefusal f with
  | some why => s.refuse why
  | none => (.ok (listOf u8 (s.clampedFields f)), s.applyLine f)

/-! ## SET STATION (R34, R70, R71) -/

/-- The kind a byte names (Table 4-1). -/
def kindOf (b : Byte) : Option Kind :=
  match b.toNat with
  | 0 => some .machine
  | 1 => some .gauge
  | 2 => some .idle
  | _ => none

/-- The clamp group, given or absent; a byte that names none is out of its values. -/
def groupOf : Option Byte → Option (Option Group)
  | none => some none
  | some b =>
    match b.toNat with
    | 0 => some (some .a)
    | 1 => some (some .b)
    | _ => none

/-- The fault mode a byte names. -/
def faultModeOf (b : Byte) : Option FaultMode :=
  match b.toNat with
  | 0 => some .edge
  | 1 => some .level
  | _ => none

/-- The overrun policy a byte names. -/
def overrunOf (b : Byte) : Option OverrunPolicy :=
  match b.toNat with
  | 0 => some .hold
  | 1 => some .abandon
  | _ => none

/-- The record a request names, P1 and P2 raised to 1, when every field lies in its values and they agree (Table
4-1, R70 check 3). -/
def stationRecord (f : StationFields) : Option StationConfig :=
  match kindOf f.kind, groupOf f.group, faultModeOf f.faultMode, overrunOf f.policy with
  | some kind, some group, some mode, some policy =>
    if (kind = .idle ↔ group = none) ∧ (f.finalGauge → kind = .gauge) then
      some
        { kind := kind, group := group, faultMode := mode, policy := policy, p1 := max 1 f.p1.toNat,
          p2 := max 1 f.p2.toNat, finalGauge := f.finalGauge }
    else none
  | _, _, _, _ => none

/-- Another station holds the final-gauge flag. -/
def State.otherFinalGauge (s : State) (k : Nat) : Bool :=
  (List.range Config.maxStations).any fun i => i + 1 != k && (s.unit (i + 1)).config.finalGauge

/-- The unit has an operation in hand, working, abandoning or interrupted by a fault (R70 check 4). -/
def StationUnit.inHand (u : StationUnit) : Bool :=
  match u.state with
  | .working => true
  | .late => true
  | .abandoning => true
  | .faulted => u.fault.any fun f => f.resume == .operation || f.resume == .abandon
  | .vacant => false
  | .seated => false
  | .complete => false

/-- The kind changes to IDLE. -/
def toIdle (old new : StationConfig) : Bool := new.kind == .idle && old.kind != .idle

/-- A route gives station k a nonzero program (R34). -/
def State.routed (s : State) (k : Nat) : Bool := (List.range Config.routes).any fun v => s.program v k != 0

/-- The checks of SET STATION after the fields (R70 checks 4 and 5). -/
def State.stationRefusal (k : Nat) (c : StationConfig) (s : State) : Option Reason :=
  let u := s.unit k
  if u.inHand ∧ { c with p1 := u.config.p1, p2 := u.config.p2 } ≠ u.config then some .wrongState
  else if toIdle u.config c ∧ (u.state = .faulted ∨ (s.palletAt k).isSome) then some .wrongState
  else if toIdle u.config c ∧ s.routed k then some .routeConflict
  else none

/-- The unit after its configuration is replaced (R71, R86). -/
def StationUnit.reconfigure (c : StationConfig) (u : StationUnit) : StationUnit :=
  let v := { u with config := c }
  if toIdle u.config c then
    { v with clampWatch := false, state := if u.state = .complete then .vacant else u.state }
  else v

/-- The clamp channel of a station made IDLE: UNSET, its waiting requests gone, a pulse in flight running on
(R95; log 44). -/
def Channel.unset (ch : Channel) : Channel := { ch with commanded := none, pending := none }

/-- An accepted SET STATION (R71, R106). -/
def State.applyStation (k : Nat) (c : StationConfig) (s : State) : State :=
  let old := (s.unit k).config
  let t := s.modUnit k (StationUnit.reconfigure c)
  let t := if toIdle old c then (t.modChannel (.clamp k) Channel.unset).topUpReload else t
  let t :=
    if old.kind = .idle ∧ c.kind ≠ .idle ∧ s.isq.line = .held ∧ (s.palletAt k).isSome then t.clampPlaced k else t
  let t := if old.faultMode ≠ .level ∧ c.faultMode = .level then t.levelFault k else t
  t.releaseEmptyFixtures

/-- SET STATION. Of P1 and P2 the reply lists the raised ones alone (R70; log 64). -/
def State.doSetStation (f : StationFields) (s : State) : Answer × State :=
  let k := f.station.toNat
  if s.isq.line = .running ∨ s.isq.line = .halted then s.refuse .wrongState
  else if !(1 ≤ k && k ≤ s.isq.stations.getD Config.maxStations) then s.refuse .badField
  else
    match stationRecord f with
    | none => s.refuse .badField
    | some c =>
      if c.finalGauge ∧ s.otherFinalGauge k then s.refuse .badField
      else
        match s.stationRefusal k c with
        | some why => s.refuse why
        | none =>
          (.ok (listOf u8 (noteClamp 6 f.p1.toNat c.p1 ++ noteClamp 7 f.p2.toNat c.p2)), s.applyStation k c)

/-! ## SET ROUTE (R33) -/

/-- A nonzero program is given to an IDLE station. -/
def State.routeConflict (l : List Byte) (s : State) : Bool :=
  (s.stationList.zip l).any fun e => e.2 != 0 && (s.unit e.1).config.kind == .idle

/-- SET ROUTE. -/
def State.doSetRoute (route : Byte) (l : List Byte) (s : State) : Answer × State :=
  if s.isq.line = .unconfigured then s.refuse .wrongState
  else if 7 < route.toNat ∨ l.length ≠ s.n ∨ l.any (fun b => Nat.blt 250 b.toNat) = true then s.refuse .badField
  else if s.routeConflict l then s.refuse .routeConflict
  else
    (.ok [],
      s.modRtb fun t =>
        t.set route.toNat (l.map BitVec.toNat ++ List.replicate (Config.maxStations - l.length) 0))

/-! ## Cam banks (R130 to R132, R139) -/

/-- The action of a point, with k and the expected level present and in range as Table 7-1 asks. -/
def actionOf (p : PointFields) : Option CamAction :=
  match p.action.toNat, p.k, p.level with
  | 0, some k, none => if k.toNat ≤ 7 then some (.auxOn k.toNat) else none
  | 1, some k, none => if k.toNat ≤ 7 then some (.auxOff k.toNat) else none
  | 2, some k, some e => if k.toNat ≤ 7 then some (.check k.toNat e) else none
  | 3, none, none => some .mark
  | _, _, _ => none

/-- The stroke a byte names. -/
def directionOf (b : Byte) : Option Direction :=
  match b.toNat with
  | 0 => some .advance
  | 1 => some .returning
  | _ => none

/-- The point its fields name, if they lie in their values (R128, R130). -/
def camPoint (p : PointFields) : Option CamPoint :=
  match directionOf p.stroke, actionOf p with
  | some d, some a =>
    if p.position.toNat ≤ Config.maxPosition then some { position := p.position.toNat, stroke := d, action := a } else none
  | _, _ => none

/-- The points of a bank after a write (R130). -/
def writePoints (start : Nat) (new old : List CamPoint) : List CamPoint :=
  match new with
  | [] => old.take start
  | _ :: _ => old.take start ++ new ++ old.drop (start + new.length)

/-- CAM WRITE. -/
def State.doCamWrite (bank start : Byte) (l : List PointFields) (s : State) : Answer × State :=
  if s.isq.line = .unconfigured then s.refuse .wrongState
  else
    match bankOf bank, l.mapM camPoint with
    | some id, some new =>
      let k := s.cam.bank id
      if k.points.length < start.toNat ∨ Config.maxPoints < start.toNat + new.length then s.refuse .badField
      else if k.state = .active then s.refuse .bankActive
      else if k.state = .armed ∨ k.underTrial then s.refuse .bankPending
      else
        let t := s.modBank id fun x => { x with points := writePoints start.toNat new x.points }
        (.ok (u8 id.code ++ u8 (t.cam.bank id).points.length), t)
    | _, _ => s.refuse .badField

/-- CAM_INVALID with the point at fault (R131). -/
def camInvalid (e : Nat × CamFault) : Answer := .refused .camInvalid (u8 e.1 ++ u8 e.2.code)

/-- CAM ARM. -/
def State.doCamArm (bank : Byte) (s : State) : Answer × State :=
  if s.isq.line = .unconfigured then s.refuse .wrongState
  else
    match bankOf bank with
    | none => s.refuse .badField
    | some id =>
      match (s.cam.bank id).state with
      | .active => s.refuse .bankActive
      | .armed => (.ok [], s)
      | .open_ =>
        if (s.cam.bank id.other).state = .armed then s.refuse .bankPending
        else
          match (s.cam.bank id).fault s.mgn.settings.stroke with
          | some e => (camInvalid e, s)
          | none => (.ok [], (s.modBank id fun x => { x with state := .armed }).judgeReady)

/-- CAM DISARM. -/
def State.doCamDisarm (bank : Byte) (s : State) : Answer × State :=
  if s.isq.line = .unconfigured then s.refuse .wrongState
  else
    match bankOf bank with
    | none => s.refuse .badField
    | some id =>
      match (s.cam.bank id).state with
      | .active => s.refuse .bankActive
      | .open_ => s.refuse .wrongState
      | .armed =>
        if s.prg.openIndex ∧ (s.cam.bankIn .active).isNone then s.refuse .bankPending
        else (.ok [], s.modBank id fun x => { x with state := .open_ })

/-- The trial record as it opens (R139). -/
def TrialRecord.opened (id : BankId) : TrialRecord :=
  { bank := id, wouldApply := 0, checkPass := 0, checkFail := 0, notEvaluated := 0, fired := [] }

/-- TRIAL. -/
def State.doTrial (bank : Byte) (s : State) : Answer × State :=
  if s.isq.line ≠ .held ∨ s.inTrial then s.refuse .wrongState
  else
    match bankOf bank with
    | none => s.refuse .badField
    | some id =>
      if !s.barHome ∨ s.sct.liftState ≠ .down ∨ s.nodeLost Config.lineNode then s.refuse .notHome
      else
        match (if (s.cam.bank id).state = .open_ then (s.cam.bank id).fault s.mgn.settings.stroke else none) with
        | some e => (camInvalid e, s)
        | none =>
          (.accepted [],
            ((s.modCam fun c => { c with trial := some (TrialRecord.opened id) }).modBank id fun x =>
              { x with underTrial := true }).startTrial)

/-! ## Register edits (R17 to R23) -/

/-- PALLET ENROL with place TAIL. -/
def State.doEnrolTail (id : Byte) (s : State) : Answer × State :=
  if s.isq.line = .unconfigured then s.refuse .wrongState
  else if !idOk id then s.refuse .badField
  else if (s.record id.toNat).isSome ∨ s.isForeignId id.toNat then s.refuse .duplicate
  else if Config.maxRecords ≤ s.prg.records.length then s.refuse .tableFull
  else if s.queueFull then s.refuse .queueFull
  else (.ok [], ((s.createRecord id.toNat none).joinQueue id.toNat).judge)

/-- PALLET ENROL with place LOAD. -/
def State.doEnrolLoad (id : Byte) (s : State) : Answer × State :=
  if s.isq.line = .unconfigured then s.refuse .wrongState
  else if !idOk id then s.refuse .badField
  else
    match s.foreignId with
    | none => s.refuse .wrongState
    | some read =>
      if read ≠ id.toNat then s.refuse .badField
      else if (s.record id.toNat).isSome then s.refuse .duplicate
      else if Config.maxRecords ≤ s.prg.records.length then s.refuse .tableFull
      else (.ok [], ((s.createRecord id.toNat none).setSlot 0 (.pallet id.toNat)).toLoad .awaitingBlock)

/-- PALLET ENROL: a place other than TAIL and LOAD is out of its values. -/
def State.doEnrol (place id : Byte) (s : State) : Answer × State :=
  match place.toNat with
  | 0 => s.doEnrolTail id
  | 1 => s.doEnrolLoad id
  | _ => if s.isq.line = .unconfigured then s.refuse .wrongState else s.refuse .badField

/-- PALLET PLACE and PALLET UNPLACE are accepted: HELD, or HALTED in LOCATE, CLAMP or VERIFY (R19, R20, R157). -/
def State.editable (s : State) : Bool :=
  s.isq.line == .held || s.haltPhase.any fun p => p == .locate || p == .clamp || p == .verify

/-- The block a request gives (R19). -/
def blockOf (f : BlockFields) : Option Block :=
  match dispositionOf f.disposition with
  | some d =>
    if serialOk f.serial ∧ f.variant.toNat ≤ 7 then
      some { serial := f.serial, variant := f.variant.toNat, disposition := d, lock := false, log := [] }
    else none
  | none => none

/-- The optional block of PALLET PLACE: none where its fields are out of their values. -/
def placedBlock : Option BlockFields → Option (Option Block)
  | none => some none
  | some f => (blockOf f).map some

/-- The pallet stands in slot p: an existing record leaves the offline set, a new one is created (R3, R19). -/
def State.putPallet (id p : Nat) (x : Option Block) (s : State) : State :=
  let t :=
    match s.record id with
    | none => s.createRecord id x
    | some _ =>
      (s.leaveOffline id).modRecord id fun r => { r with block := match x with | none => r.block | some y => some y }
  t.setSlot p (.pallet id)

/-- What follows a placement at position p (R19, R39, R106, R157). -/
def State.afterPlace (p : Nat) (s : State) : State :=
  if p = 0 then s.toLoad s.resolvedState
  else if p = s.n + 1 then s.judgeWatch
  else if s.isClampStation p then
    match s.isq.line with
    | .held => s.clampPlaced p
    | .halted => s.modIsq fun q => { q with seatEdit := true }
    | .unconfigured => s
    | .running => s
  else s

/-- The checks of PALLET PLACE from the third on (R19). -/
def State.placeRefusal (id p : Nat) (x : Option Block) (s : State) : Option Reason :=
  if s.slot p ≠ .empty ∨ (p = 0 ∧ s.fdu.state ≠ .empty) then some .wrongState
  else if s.isForeignId id then some .wrongState
  else
    match s.record id with
    | some r =>
      if s.location id ≠ .offline then some .wrongState
      else if x.isSome ∧ r.block.isSome then some .badField
      else none
    | none => if Config.maxRecords ≤ s.prg.records.length then some .tableFull else none

/-- PALLET PLACE. -/
def State.doPlace (id p : Byte) (f : Option BlockFields) (s : State) : Answer × State :=
  if !s.editable then s.refuse .wrongState
  else
    match placedBlock f with
    | none => s.refuse .badField
    | some x =>
      if !idOk id ∨ s.n + 1 < p.toNat then s.refuse .badField
      else
        match s.placeRefusal id.toNat p.toNat x with
        | some why => s.refuse why
        | none =>
          let t := (s.putPallet id.toNat p.toNat x).afterPlace p.toNat
          (.ok (t.placeContent id.toNat), t)

/-- The station's unit has an operation running or ending (R20). -/
def UnitState.atWork : UnitState → Bool
  | .working => true
  | .late => true
  | .abandoning => true
  | .vacant => false
  | .seated => false
  | .complete => false
  | .faulted => false

/-- What follows a removal from position p (R20, R39, R106, R149, R151). -/
def State.afterUnplace (p : Nat) (s : State) : State :=
  if p = 0 then s.setLoad .empty true
  else if p = s.n + 1 then s.judgeWatch
  else s.releaseEmptyFixtures

/-- PALLET UNPLACE. -/
def State.doUnplace (p : Byte) (s : State) : Answer × State :=
  if !s.editable then s.refuse .wrongState
  else if s.n + 1 < p.toNat then s.refuse .badField
  else
    match s.palletAt p.toNat with
    | none => s.refuse .wrongState
    | some id =>
      if s.stationInLine p.toNat ∧ (s.unit p.toNat).state.atWork then s.refuse .wrongState
      else (.ok [], ((s.setSlot p.toNat .empty).joinOffline id).afterUnplace p.toNat)

/-- PALLET ADMIT. -/
def State.doAdmit (id : Byte) (resetCount : Bool) (s : State) : Answer × State :=
  if s.isq.line = .unconfigured then s.refuse .wrongState
  else if !idOk id then s.refuse .badField
  else if (s.record id.toNat).isNone then s.refuse .unknownPallet
  else if s.location id.toNat ≠ .offline ∨ s.isForeignId id.toNat then s.refuse .wrongState
  else if s.queueFull then s.refuse .queueFull
  else
    (.ok [],
      (((s.leaveOffline id.toNat).joinQueue id.toNat).modRecord id.toNat fun r =>
        { r with cycles := if resetCount then 0 else r.cycles }).judge)

/-- PALLET WITHDRAW. -/
def State.doWithdraw (id : Byte) (s : State) : Answer × State :=
  if s.isq.line = .unconfigured then s.refuse .wrongState
  else if !idOk id then s.refuse .badField
  else if (s.record id.toNat).isNone then s.refuse .unknownPallet
  else (.ok [], (s.modRecord id.toNat fun r => { r with withdraw := true }).judgeReady)

/-- PALLET RETIRE. -/
def State.doRetire (id : Byte) (s : State) : Answer × State :=
  if s.isq.line = .unconfigured then s.refuse .wrongState
  else if !idOk id then s.refuse .badField
  else
    match s.record id.toNat with
    | none => s.refuse .unknownPallet
    | some r =>
      if s.location id.toNat ≠ .offline then s.refuse .wrongState
      else if r.block.any Block.lock then s.refuse .locked
      else (.ok [], (s.leaveOffline id.toNat).deleteRecord id.toNat)

/-! ## Blocks (R36, R37, R42) -/

/-- Position 0 waits for a block, or was declared empty with no index opened since (R36, R37). -/
def State.assignable (s : State) : Bool :=
  s.fdu.state == .awaitingBlock || (s.fdu.state == .ready && (s.blockAt 0).isNone && !s.prg.openIndex)

/-- Position 0 becomes or stays READY, and PRG's load check is made (R36 to R38). -/
def State.loadReady (s : State) : State := (s.toLoad .ready).loadCheck

/-- BLOCK ASSIGN. -/
def State.doAssign (serial : List Byte) (variant : Byte) (s : State) : Answer × State :=
  if s.isq.line = .unconfigured then s.refuse .wrongState
  else if !serialOk serial ∨ 7 < variant.toNat then s.refuse .badField
  else if !s.assignable then s.refuse .wrongState
  else if !(s.image 0).block then s.refuse .noBlock
  else
    let x : Block := { serial := serial, variant := variant.toNat, disposition := .good, lock := false, log := [] }
    let t :=
      match s.palletAt 0 with
      | none => s
      | some id => s.modRecord id fun r => { r with block := some x }
    (.ok [], t.loadReady.judgeReady)

/-- BLOCK EMPTY. -/
def State.doEmpty (s : State) : Answer × State :=
  if s.isq.line = .unconfigured then s.refuse .wrongState
  else if !s.assignable then s.refuse .wrongState
  else if (s.image 0).block then s.refuse .wrongState
  else (.ok [], s.loadReady.judgeReady)

/-- DISPOSE. -/
def State.doDispose (id d : Byte) (s : State) : Answer × State :=
  if s.isq.line = .unconfigured then s.refuse .wrongState
  else
    match dispositionOf d with
    | none => s.refuse .badField
    | some verdict =>
      if !idOk id then s.refuse .badField
      else
        match s.record id.toNat with
        | none => s.refuse .unknownPallet
        | some r =>
          match r.block with
          | none => s.refuse .noBlock
          | some x =>
            if x.lock then s.refuse .locked
            else (.ok [], s.modBlock id.toNat fun y => { y with disposition := verdict })

/-! ## Service and faults (R88 to R91) -/

/-- STATION OUT and STATION IN. -/
def State.doService (inService : Bool) (station : Byte) (s : State) : Answer × State :=
  let k := station.toNat
  if s.isq.line = .unconfigured then s.refuse .wrongState
  else if !s.stationInLine k then s.refuse .badField
  else if (s.unit k).inService = inService then (.ok [], s)
  else (.ok [], (s.modUnit k fun u => { u with inService := inService }).report (.stationService k inService))

/-- The checks of FAULT CLEAR from the fourth on (R88). Check 6 is made whatever the kind of the station (log 52). -/
def State.clearRefusal (k : Nat) (retry : Bool) (f : FaultRecord) (s : State) : Option Reason :=
  let u := s.unit k
  if f.reclamp then some .wrongState
  else if s.nodeLost k then some .wrongState
  else if u.config.faultMode = .level ∧ (s.image k).flt then some .stillActive
  else if retry ∧ f.resume = .operation ∧ s.palletAt k ≠ u.operation.map Operation.pallet then some .wrongState
  else if retry ∧ f.clampLost ∧ s.barPhase then some .wrongState
  else none

/-- FAULT CLEAR of a faulted unit (R89, R90). -/
def State.clearFault (k : Nat) (retry : Bool) (f : FaultRecord) (s : State) : Answer × State :=
  match s.clearRefusal k retry f with
  | some why => s.refuse why
  | none =>
    if retry then
      if s.needsReclamp k f then (.accepted [], (s.startReclamp k f).judgeReady)
      else (.ok [], (s.finishClear k .retry f).judgeReady)
    else (.ok [], (s.finishClear k .abandon f).judgeReady)

/-- FAULT CLEAR. -/
def State.doFaultClear (station action : Byte) (s : State) : Answer × State :=
  let k := station.toNat
  if s.isq.line = .unconfigured then s.refuse .wrongState
  else if !s.stationInLine k ∨ 1 < action.toNat then s.refuse .badField
  else
    match (s.unit k).state, (s.unit k).fault with
    | .faulted, some f => s.clearFault k (action == 0) f
    | _, _ => s.refuse .notFaulted

/-! ## RUN, HOLD, STOP, RECOVER (R47 to R51, R158) -/

/-- The checks of RUN after the seat check (R48). -/
def State.runRefusal (s : State) : Option Reason :=
  if !s.barHome ∨ s.sct.liftState ≠ .down ∨ s.nodeLost Config.lineNode then some .notHome
  else if !s.driveReady then some .drive
  else if !s.camsReady then some .noCams
  else none

/-- RUN is accepted: the load hold is cleared, the wait begins, and the conditions are judged (R48, R53, R149). -/
def State.startRun (s : State) : State :=
  ((s.clearLoadHold.modIsq fun q => { q with holdPending := false }).enterWait .run).judge

/-- RUN. -/
def State.doRun (s : State) : Answer × State :=
  if s.isq.line ≠ .held ∨ s.inTrial then s.refuse .wrongState
  else if !s.seatCheck.isEmpty then (.refused .mapMismatch (seatDetail s.seatCheck), s)
  else
    match s.runRefusal with
    | some why => s.refuse why
    | none => (.ok [], s.startRun)

/-- HOLD. -/
def State.doHold (s : State) : Answer × State := (.ok [], s.setHold .hold)

/-- STOP's effect by line state and phase (R51). -/
def State.stopLine (s : State) : State :=
  if s.inIndex then s.enterHalted .stop []
  else if s.inWait then s.goHeld .stop
  else if s.isq.line = .held ∧ s.inTrial then s.quickStop .stopped false
  else s

/-- STOP. -/
def State.doStop (s : State) : Answer × State := (.ok [], s.stopLine)

/-- The stations of kind MACHINE or GAUGE that show HOME off (R158 check 7). -/
def State.awayStations (s : State) : List Nat := s.stationList.filter fun k => s.isClampStation k && !(s.image k).home

/-- The lift stands where the recovery needs it (R158 check 8). -/
def State.liftSuits (halt : Phase) (s : State) : Bool :=
  match halt with
  | .advance => s.sct.liftState == .up
  | .release => s.sct.liftState == .down
  | .withdraw => s.sct.liftState == .down
  | .locate => s.sct.liftState == .down
  | .clamp => s.sct.liftState == .down
  | .verify => s.sct.liftState == .down
  | .returning => s.sct.liftState == .down
  | .lift => true
  | .lower => true
  | .wait => true

/-- The direction a byte names. -/
def courseOf (b : Byte) : Option Course :=
  match b.toNat with
  | 0 => some .forward
  | 1 => some .backward
  | _ => none

/-- The checks of RECOVER from the third on (R158). -/
def State.recoverRefusal (dir : Course) (r : HaltRecord) (s : State) : Option Answer :=
  if r.stopping then some (.refused .wrongState [])
  else if dir = .backward ∧ r.phase.backwardFrom = none then some (.refused .direction [])
  else if !s.driveReady then some (.refused .drive [])
  else if s.nodeLost Config.lineNode ∨ s.positionList.any s.nodeLost then some (.refused .wrongState [])
  else if r.phase.barMayBeUp ∧ !s.awayStations.isEmpty then some (.refused .wrongState (positionBytes s.awayStations))
  else if !(s.liftSuits r.phase) then some (.refused .wrongState [])
  else if dir = .forward ∧ r.phase = .advance ∧ !s.isq.allMarks then some (.refused .wrongState [])
  else none

/-- The reply to an accepted RECOVER: the phases it will run (R158). -/
def phaseListBytes (l : List Phase) : List Byte := listOf (fun p => u8 p.code) l

/-- RECOVER. -/
def State.doRecover (direction : Byte) (s : State) : Answer × State :=
  match s.isq.line, s.isq.haltRecord with
  | .halted, some r =>
    match courseOf direction with
    | none => s.refuse .badField
    | some dir =>
      match s.recoverRefusal dir r with
      | some a => (a, s)
      | none =>
        (.accepted
            (phaseListBytes (recoveryPhases dir r.phase (courseAfter dir r.phase s.isq.course) s.isq.seatEdit)),
          (s.recover dir r.phase).judgeFeed)
  | _, _ => s.refuse .notHalted

/-! ## REPORT MASK, ECHO, RESTART (R164 to R166, R175, R177) -/

/-- REPORT MASK: the mask as it now stands. -/
def State.doReportMask (event trace : Bool) (s : State) : Answer × State :=
  (.ok (flag event ++ flag trace), s.modClu fun c => { c with eventOn := event, traceOn := trace })

/-- ECHO: a payload that leaves no room for the status byte is BAD_LENGTH. -/
def State.doEcho (l : List Byte) (s : State) : Answer × State :=
  if l.length < Config.maxPayload then (.ok l, s) else s.refuse .badLength

/-- CLU at RESTART: the queues are emptied, the overflow record cleared, RESET heads the reports (R165, R176). -/
def State.cluRestart (s : State) : State :=
  (s.modClu fun c =>
    { c with requestQueue := [], reports := [], overflow := { alarms := 0, events := 0, traces := 0, first := none } }
    ).report (.reset .restart s.clu.rate)

/-- ISQ at RESTART (R44, R68). -/
def State.lineRestart (s : State) : State :=
  match s.isq.line with
  | .unconfigured => s
  | .held => s
  | .halted => s.addCause .restart []
  | .running => if s.inWait then s.goHeld .restart else s.enterHalted .restart []

/-- MGN at RESTART (R127). -/
def State.motionRestart (s : State) : State := (s.quickStop .restart true).modMgn fun m => { m with errorCount := 0 }

/-- The auxiliary outputs go off at RESTART (R138). -/
def State.auxRestart (s : State) : State := s.modCam fun c => { c with aux := List.replicate 8 false }

/-- RESTART in every block (R164; log 30). -/
def State.restartAll (s : State) : State :=
  ((((((s.cluRestart).lineRestart).motionRestart).seatRestart).unitsRestart).feedRestart).auxRestart.judgeFeed

/-- RESTART. -/
def State.doRestart (s : State) : Answer × State := (.ok [], s.restartAll)

/-! ## All requests -/

/-- The owning block takes a request (R172). -/
def Request.perform (r : Request) (s : State) : Answer × State :=
  match r with
  | .ident => s.doIdent
  | .queryStatus => s.doQueryStatus
  | .queryStation k => s.doQueryStation k
  | .queryPallet id => s.doQueryPallet id
  | .queryMap => s.doQueryMap
  | .queryQueue => s.doQueryQueue
  | .setLine f => s.doSetLine f
  | .setStation f => s.doSetStation f
  | .setRoute v l => s.doSetRoute v l
  | .camWrite b i l => s.doCamWrite b i l
  | .camArm b => s.doCamArm b
  | .camDisarm b => s.doCamDisarm b
  | .palletEnrol place id => s.doEnrol place id
  | .palletPlace id p b => s.doPlace id p b
  | .palletUnplace p => s.doUnplace p
  | .palletAdmit id r => s.doAdmit id r
  | .palletWithdraw id => s.doWithdraw id
  | .palletRetire id => s.doRetire id
  | .blockAssign l v => s.doAssign l v
  | .blockEmpty => s.doEmpty
  | .dispose id d => s.doDispose id d
  | .stationOut k => s.doService false k
  | .stationIn k => s.doService true k
  | .faultClear k a => s.doFaultClear k a
  | .run => s.doRun
  | .hold => s.doHold
  | .stop => s.doStop
  | .recover d => s.doRecover d
  | .trial b => s.doTrial b
  | .reportMask e t => s.doReportMask e t
  | .echo l => s.doEcho l
  | .restart => s.doRestart

/-- A request whose payload is longer than a frame carries is refused with BAD_LENGTH (R170; log 50). -/
def Request.performIn (r : Request) (length : Nat) (s : State) : Answer × State :=
  if length ≤ Config.maxPayload then r.perform s else s.refuse .badLength

/-- The line-state checks that stand before the field checks, for the requests whose payload holds a presence, flag or
level byte (R19, R21, R46, R70, R130). -/
def State.stateRefusal (kind : Byte) (s : State) : Option Reason :=
  match kind.toNat with
  | 0x07 => s.lineClosed
  | 0x08 => if s.isq.line = .running ∨ s.isq.line = .halted then some .wrongState else none
  | 0x0A => if s.isq.line = .unconfigured then some .wrongState else none
  | 0x0E => if s.editable then none else some .wrongState
  | 0x10 => if s.isq.line = .unconfigured then some .wrongState else none
  | _ => none

end Sys2Proof.Machine
end

