-- ==== Sys2Proof/Machine/CellLink.lean ====
section
/-! DEFINITION. The Cell Link Unit (chapter 10): the receive framer, the request queue with its BUSY list,
the execution of requests, the transmitter, the break, and what CLU does in every event of the part. -/

namespace Sys2Proof.Machine

/-! ## Link counts (R177) -/

/-- Change the link counts. -/
def State.modCounts (f : LinkCounts → LinkCounts) (s : State) : State :=
  s.modClu fun c => { c with counts := f c.counts }

/-- A link count rises, saturating. -/
def bump (n : Nat) : Nat := satInc Config.maxCount16 n

/-- The framer takes a state. -/
def State.setFramer (f : Framer) (s : State) : State := s.modClu fun c => { c with framer := f }

/-- The framer goes to HUNT. -/
def State.toHunt (s : State) : State := s.setFramer .hunt

/-! ## Executing requests (R169, R172) -/

/-- A reply takes the reply slot, behind the BUSY replies already created. -/
def State.placeReply (kind tag : Byte) (a : Answer) (s : State) : State :=
  s.modClu fun c =>
    { c with replySlot := some { kind := kind, tag := tag, answer := a }, busyAhead := c.busyList.length }

/-- A request frame is executed: CLU's two checks, then the owning block (R169, R172). A presence, flag or level byte
that is neither 0 nor 1 is BAD_FIELD among the block's field checks (R130, R170; log 13). -/
def State.execute (f : Frame) (s : State) : Answer × State :=
  match Request.parse f.kind f.payload with
  | .ok r => r.performIn f.payload.length s
  | .error .badField => s.refuse ((s.stateRefusal f.kind).getD .badField)
  | .error why => s.refuse why

/-- With the reply slot empty the request at the head is executed (R172). -/
def State.serve (s : State) : State :=
  match s.clu.replySlot, s.clu.requestQueue with
  | none, f :: rest =>
    let a := (s.modClu fun c => { c with requestQueue := rest }).execute f
    a.2.placeReply f.kind f.tag a.1
  | _, _ => s

/-- A request frame arrives (R171): it joins the queue, is answered BUSY, or is dropped. -/
def State.arrive (f : Frame) (s : State) : State :=
  if s.clu.requestQueue.length < Config.requestSlots then
    s.modClu fun c => { c with requestQueue := c.requestQueue ++ [f] }
  else if s.clu.busyList.length < Config.busySlots then
    (s.modClu fun c => { c with busyList := c.busyList ++ [{ kind := f.kind, tag := f.tag }] }).modCounts
      fun n => { n with busy := bump n.busy }
  else s.modCounts fun n => { n with dropped := bump n.dropped }

/-- A valid frame is judged by its kind (R169). -/
def State.takeFrame (f : Frame) (s : State) : State :=
  if 0x01 ≤ f.kind.toNat ∧ f.kind.toNat ≤ 0x3F then s.arrive f
  else s.modCounts fun n => { n with kind := bump n.kind }

/-- A request given with its fields arrives (R171, R172; log 5): with the slot free and no other request waiting
it is executed at once, else its frame arrives. While a break lasts too it acts as if its frame had arrived (R173; log 68). -/
def State.submit (r : Request) (tag : Byte) (s : State) : State :=
  if s.clu.replySlot.isNone ∧ s.clu.requestQueue = [] then
    let a := r.performIn r.payload.length s
    a.2.placeReply r.kind tag a.1
  else s.arrive (r.frame tag)

/-! ## The receive framer (R167, R168) -/

/-- The CRC of a received frame is judged. -/
def State.judgeCrc (len : Nat) (kind tag : Byte) (got : List Byte) (high low : Byte) (s : State) : State :=
  let t := s.toHunt
  if crc16 (u8 len ++ [kind, tag] ++ got) = high ++ low then t.takeFrame { kind := kind, tag := tag, payload := got }
  else t.modCounts fun n => { n with crc := bump n.crc }

/-- The framer takes a byte. While a break lasts it takes none (R173; log 38). -/
def State.takeByte (b : Byte) (s : State) : State :=
  if s.clu.breakSeen then s
  else
    match s.clu.framer with
    | .hunt => if b = 0xA5 then s.setFramer .length else s
    | .length =>
      if b.toNat ≤ Config.maxPayload then s.setFramer (.kind b.toNat)
      else s.toHunt.modCounts fun n => { n with length := bump n.length }
    | .kind len => s.setFramer (.tag len b)
    | .tag len k => s.setFramer (if len = 0 then .crcHigh len k b [] else .payload len k b [])
    | .payload len k t got =>
      s.setFramer (if len ≤ got.length + 1 then .crcHigh len k t (got ++ [b]) else .payload len k t (got ++ [b]))
    | .crcHigh len k t got => s.setFramer (.crcLow len k t got b)
    | .crcLow len k t got high => s.judgeCrc len k t got high b

/-- A gap of more than 5 ms (R167). -/
def State.takeGap (s : State) : State :=
  if s.clu.framer = .hunt then s else s.toHunt.modCounts fun n => { n with gap := bump n.gap }

/-- A byte with a framing error (R167). -/
def State.takeFramingError (s : State) : State :=
  if s.clu.framer = .hunt then s else s.toHunt.modCounts fun n => { n with framing := bump n.framing }

/-- A break: one event for ISQ while the space lasts (R50, R173; log 33). -/
def State.takeBreak (s : State) : State :=
  if s.clu.breakSeen then s
  else ((s.modClu fun c => { c with breakSeen := true }).toHunt).setHold .break

/-- The break ends (R173). -/
def State.endBreak (s : State) : State := s.modClu fun c => { c with breakSeen := false }

/-! ## The transmitter (R174) -/

/-- The transmitter begins a frame. -/
def State.beginFrame (l : List Byte) (s : State) : State := s.modClu fun c => { c with transmitting := some l }

/-- The report at the head of the queue is sent. -/
def State.sendReport (s : State) : State :=
  match s.clu.reports with
  | [] => s
  | q :: rest => (s.modClu fun c => { c with reports := rest }).beginFrame q.bytes

/-- The reply in the slot is sent; the slot is free and the next request is executed (R172). -/
def State.sendReply (r : Reply) (s : State) : State :=
  ((s.modClu fun c => { c with replySlot := none }).beginFrame r.bytes).serve

/-- The oldest BUSY reply is sent. -/
def State.sendBusy (r : BusyReply) (rest : List BusyReply) (s : State) : State :=
  (s.modClu fun c => { c with busyList := rest, busyAhead := c.busyAhead - 1 }).beginFrame r.bytes

/-- An idle transmitter chooses the next frame: replies in the order of their creation, then the head report
(R172, R174). -/
def State.transmit (s : State) : State :=
  match s.clu.transmitting with
  | some _ => s
  | none =>
    match s.clu.replySlot, s.clu.busyList with
    | some r, [] => s.sendReply r
    | some r, b :: rest => if s.clu.busyAhead = 0 then s.sendReply r else s.sendBusy b rest
    | none, b :: rest => s.sendBusy b rest
    | none, [] => s.sendReport

/-- The transmitter has ended its frame (R174). -/
def State.endFrame (s : State) : State := s.modClu fun c => { c with transmitting := none }

/-! ## One event of the part -/

/-- What CLU does at the end of every event: it executes a request with the slot free (R172), sends with the
transmitter idle (R174), and queues OVERFLOW where there is room (R176). -/
def State.settleLink (s : State) : State := s.serve.transmit.flushOverflow.transmit

/-- An event of the part. With RST low nothing happens (R182; log 4); a frame that was ready with the transmitter
idle begins before it (R174, R178). -/
def State.event (f : State → State) (s : State) : State :=
  if s.inReset then s else (f s.transmit).settleLink

/-- The event of a request given with its fields (log 5). -/
def State.requestEvent (r : Request) (tag : Byte) (s : State) : State := s.event (State.submit r tag)

end Sys2Proof.Machine
end

