-- ==== Sys2Proof/Machine/Ring.lean ====
section
/-! DEFINITION. The Ring Controller (chapter 11): the output images, the frames of the ring as bytes (R183), the
scan, the loss and return of nodes (R181), the delivery of input changes (R180). -/

namespace Sys2Proof.Machine

/-! ## Output images (R180, Table 11-1; log 31) -/

/-- A side's solenoid of a channel is on. -/
def State.solenoid (s : State) (c : ChannelId) (side : Side) : Bool :=
  ((s.channel c).bind Channel.pulse).any fun p => p.side == side

/-- All off and program 0. -/
def OutputImage.off : OutputImage :=
  { start := false, program := 0, clamp := false, unclamp := false, locate := false, unlocate := false,
    read := false, gate := false, raise := false, lower := false, aux := List.replicate 8 false }

/-- The line node's outputs. -/
def State.lineOutputs (s : State) : OutputImage :=
  { OutputImage.off with
    gate := s.fdu.gate, raise := s.solenoid .lift .engage, lower := s.solenoid .lift .disengage, aux := s.cam.aux }

/-- The locator outputs of position p. -/
def State.locatorOutputs (s : State) (p : Nat) : OutputImage :=
  { OutputImage.off with
    locate := s.solenoid (.locator p) .engage, unlocate := s.solenoid (.locator p) .disengage }

/-- A station node's outputs. -/
def State.stationOutputs (s : State) (k : Nat) : OutputImage :=
  { s.locatorOutputs k with
    start := (s.unit k).start, program := (s.unit k).programOut, clamp := s.solenoid (.clamp k) .engage
    unclamp := s.solenoid (.clamp k) .disengage }

/-- The output image of a node. -/
def State.outputImage (s : State) (a : Nat) : OutputImage :=
  if a = Config.lineNode then s.lineOutputs
  else if a = 0 then { s.locatorOutputs 0 with read := s.fdu.read }
  else if a = s.n + 1 then s.locatorOutputs a
  else s.stationOutputs a

/-! ## Ring frames (R183) -/

/-- Slot bytes 2 and 3 of a node of a line of n stations. -/
def OutputImage.bytes (n a : Nat) (o : OutputImage) : List Byte :=
  if a = Config.lineNode then u8 (bitsToByte [o.gate, o.raise, o.lower]) ++ u8 (bitsToByte o.aux)
  else if a = 0 then u8 (bitsToByte [o.locate, o.unlocate, o.read]) ++ u8 0
  else if a = n + 1 then u8 (bitsToByte [o.locate, o.unlocate]) ++ u8 0
  else u8 (bitsToByte [o.start, o.clamp, o.unclamp, o.locate, o.unlocate]) ++ u8 o.program

/-- A slot as it leaves the part: bytes 4 to 6, which the node writes, are 0 (log 62). -/
def slotBytes (n : Nat) (e : Nat × OutputImage) : List Byte :=
  let body := u8 e.1 ++ u8 0 ++ e.2.bytes n e.1 ++ u8 0 ++ u8 0 ++ u8 0
  body ++ [checkByte body]

/-- The frame of the scan in flight as it leaves the part. -/
def State.ringFrame (s : State) : Option (List Byte) :=
  s.rgc.scan.map fun c =>
    let body := [0x3C] ++ u8 c.sequence ++ u8 c.carried.length ++ u8 0 ++ c.carried.flatMap (slotBytes s.n)
    body ++ u16 (crc16 body).toNat

/-- The frame CRC of a returning frame is right. -/
def ringCrcOk (l : List Byte) : Bool :=
  2 ≤ l.length && (crc16 (l.take (l.length - 2))).toNat == beNat (l.drop (l.length - 2))

/-- A frame whose CRC is right belongs to a scan: header, sequence, number of slots, length (log 12). -/
def Scan.owns (c : Scan) (l : List Byte) : Bool :=
  l.take 4 == [0x3C] ++ u8 c.sequence ++ u8 c.carried.length ++ u8 0 && l.length == 6 + 8 * c.carried.length

/-- The 8 bits of a byte, bit 0 first. -/
def byteBits (b : Byte) : List Bool := (List.range 8).map (bit b)

/-- The input image a slot's bytes 4, 5 and 6 spell for a node of a line of n stations (Table 11-1, R183). -/
def decodeImage (n a : Nat) (x y z : Byte) : InputImage :=
  if a = Config.lineNode then
    { InputImage.off with liftUp := bit x 0, liftDown := bit x 1, head := bit x 2, spurClear := bit x 3, aux := byteBits y }
  else if a = 0 then
    { InputImage.off with
      present := bit x 0, locIn := bit x 1, locOut := bit x 2, block := bit x 3, toggle := bit x 4
      d2 := y.toNat / 16, d1 := y.toNat % 16, d0 := z.toNat / 16, c := z.toNat % 16 }
  else if a = n + 1 then
    { InputImage.off with present := bit x 0, locIn := bit x 1, locOut := bit x 2, block := bit x 3 }
  else
    { InputImage.off with
      home := bit x 0, done := bit x 1, pass := bit x 2, flt := bit x 3, clamped := bit x 4, unclamped := bit x 5
      locIn := bit x 6, locOut := bit x 7, present := bit y 0 }

/-- A slot's answer: its input image when it is of the node, marked answered, with a correct check. A slot
with another address byte is no answer (log 60). -/
def slotAnswer (n a : Nat) (l : List Byte) : Option InputImage :=
  match l with
  | [adr, mark, _, _, x, y, z, _] =>
    if adr.toNat = a ∧ bit mark 0 = true ∧ byteSum l = 0 then some (decodeImage n a x y z) else none
  | _ => none

/-- The answer of every node of the scan, in the order of the slots. -/
def slotAnswers (n : Nat) : List (Nat × OutputImage) → List Byte → List (Nat × OutputImage × Option InputImage)
  | [], _ => []
  | (a, o) :: rest, l => (a, o, slotAnswer n a (l.take 8)) :: slotAnswers n rest (l.drop 8)

/-! ## Nodes (R179, R181) -/

/-- Change the node of an address. -/
def State.modNode (a : Nat) (f : Node → Node) (s : State) : State :=
  s.modRgc fun r => { r with nodes := r.nodes.map fun nd => if nd.addr = a then f nd else nd }

/-- The loss goes to ISQ (R66), to the station's unit (R87) and to FDU (R152). SCT's waits stand as they are
(R110). -/
def State.handLoss (a : Nat) (s : State) : State :=
  let t := s.lineLosesNode a
  (if s.stationInLine a then t.unitFault a .nodeLoss else t).feedNodeLost a

/-- A scan without an answer (R181). -/
def State.missNode (a : Nat) (s : State) : State :=
  match s.node a with
  | none => s
  | some nd =>
    let missed := satInc Config.lossCount nd.missed
    let lost : Bool := nd.state != .lost && missed == Config.lossCount
    let t := s.modNode a fun x =>
      { x with
        missed := missed, scansMissed := satInc Config.maxCount16 x.scansMissed
        state := if lost then .lost else x.state }
    if lost then (t.report (.nodeLost a)).handLoss a else t

/-- The node answers with an image (R179 to R181). -/
def Node.answer (i : InputImage) (x : Node) : Node :=
  { x with state := .answering, image := some i, missed := 0, scansMissed := 0 }

/-! ## Delivery (R180) -/

/-- The starting levels of a node (R39, R111, R179; log 10). The load check is not made at the first image of position
0 (R38; log 49). -/
def State.startingImage (a : Nat) (s : State) : State :=
  if a = Config.lineNode then s.modSct fun t => { t with liftState := liftAtRest s.liftReading }
  else if a = s.n + 1 then s.judgeWatch
  else s

/-- Changes of the load position's inputs, for ISQ, FDU and PRG (log 9). An answer is one taken in READING, so a
toggle change in the image of the arrival is none. -/
def State.loadInputs (old new : InputImage) (s : State) : State :=
  let t := if !old.present && new.present then s.loadPresentRise else s
  let t := if old.present && !new.present then (t.seatDrop 0).loadPresentDrop else t
  let t := if old.toggle != new.toggle && s.fdu.state == .reading then t.codeAnswer else t
  if old.block != new.block then t.loadCheck else t

/-- Changes of the unload position's inputs, for ISQ and PRG. -/
def State.unloadInputs (a : Nat) (old new : InputImage) (s : State) : State :=
  let t := if old.present && !new.present then s.seatDrop a else s
  if !old.block && new.block then t.unloadRise else if old.block && !new.block then t.unloadDrop else t

/-- Changes of a station's inputs, for ISQ and the unit. -/
def State.stationInputs (k : Nat) (old new : InputImage) (s : State) : State :=
  let t := if old.present && !new.present then s.seatDrop k else s
  t.unitInputs k old new

/-- Changes of the line node's inputs, for SCT, ISQ and FDU. -/
def State.lineInputs (old new : InputImage) (s : State) : State :=
  let t := if old.liftUp != new.liftUp || old.liftDown != new.liftDown then s.liftChanged else s
  if old.head && !new.head then t.headDrop else t

/-- The changes between two images of a node go to their owners. -/
def State.deliver (a : Nat) (old new : InputImage) (s : State) : State :=
  if a = Config.lineNode then s.lineInputs old new
  else if a = 0 then s.loadInputs old new
  else if a = s.n + 1 then s.unloadInputs a old new
  else s.stationInputs a old new

/-- The notice that the image the scan carried is at the node (R180). -/
def State.notice (a : Nat) (carried : OutputImage) (s : State) : State :=
  if s.stationInLine a then s.unitNotice a carried else s

/-- A node's answer is handed over: its return, its starting image or its changes, and last the notice (R179 to R181; log 61).
`before` is the node as it stood before the frame. -/
def State.handAnswer (before : Node) (carried : OutputImage) (new : InputImage) (s : State) : State :=
  let a := before.addr
  let t := if before.state = .lost then s.report (.nodeReturned a before.scansMissed) else s
  let t :=
    match before.image with
    | none => t.startingImage a
    | some old => t.deliver a old new
  t.notice a carried

/-- The images of the answering nodes are held (log 9). -/
def State.holdImages (l : List (Nat × OutputImage × Option InputImage)) (s : State) : State :=
  l.foldl (fun t e => match e.2.2 with | none => t | some i => t.modNode e.1 (Node.answer i)) s

/-- The outcome of every slot of a frame is handed over, in the order of the slots: the changes of a node that answered
(log 9), the miss and loss of one that did not (log 78). -/
def State.handSlots (before : State) (l : List (Nat × OutputImage × Option InputImage)) (s : State) : State :=
  l.foldl
    (fun t e =>
      match e.2.2, before.node e.1 with
      | none, _ => t.missNode e.1
      | some _, none => t
      | some i, some nd => t.handAnswer nd e.2.1 i)
    s

/-- SCT judges its waits and then FDU and ISQ their conditions, at the end of a scan's event (R53, R97, R143). -/
def State.judgeScan (s : State) : State := s.judgeCommand.judgeRequests.judge

/-- Every node of a scan is without an answer: each is counted, and a loss handed over whole, in the order in which the
scan carries the nodes (ascending, the line node last). R181 gives no order among the losses of one event: the model's
choice (log 78). -/
def State.missScan (c : Scan) (s : State) : State := c.carried.foldl (fun t e => t.missNode e.1) s

/-- The scan in flight is over. -/
def State.closeScan (s : State) : State := s.modRgc fun r => { r with scan := none }

/-- A ring frame comes back (R179 to R181, R183; log 12). -/
def State.takeRingFrame (l : List Byte) (s : State) : State :=
  match s.rgc.scan with
  | none => s
  | some c =>
    if !ringCrcOk l then (s.closeScan.missScan c).judgeScan
    else if c.owns l then
      let answers := slotAnswers s.n c.carried (l.drop 4)
      (State.handSlots s answers (s.closeScan.holdImages answers)).judgeScan
    else s

/-- A scan starts (R179): the new frame carries the output image of every listed node, as it stands then. -/
def State.openScan (s : State) : State :=
  s.modRgc fun r =>
    { r with
      scan := some { sequence := r.sequence, carried := r.nodes.map fun nd => (nd.addr, s.outputImage nd.addr) }
      sequence := (r.sequence + 1) % 256 }

/-- RGC's work every 2 ms. Where a frame has not come back, the new scan carries the outputs as they stand after the effects
of counting it, the feed and readiness judged among them: the model's choice (R179; log 76). -/
def State.takeScan (s : State) : State :=
  match s.rgc.scan with
  | none => s.openScan
  | some c => (s.missScan c).judge.openScan

end Sys2Proof.Machine
end

