-- ==== Sys2Proof/Machine/Field.lean ====
section
/-! DEFINITION. The field side as commands: the drive link and the tick, the ring, and the expiry of every timer.
An expiry is taken when the timer's count has run out and is without effect before that (log 1). -/

namespace Sys2Proof.Machine

/-! ## Drive and tick (R112, R120, R121) -/

/-- A feedback frame comes: the first valid one since the last tick is kept (R112). -/
def State.keepFeedback (bytes : List Byte) (s : State) : State :=
  match s.mgn.received, s.validFeedback bytes with
  | none, some f => s.modMgn fun m => { m with received := some f }
  | _, _ => s

/-- DRIVE_FEEDBACK_RECEIVED. -/
def execDriveFeedbackReceived (bytes : List Byte) (s : State) : Host.Outcome State Fault Refusal :=
  .next (s.event (State.keepFeedback bytes))

/-- The tick: time and timers, the work of MGN, then the conditions (R53, R120, R143; log 1). -/
def State.tick (s : State) : State := s.countDown.motionTick.judge

/-- MOTION_TICK. -/
def execMotionTick (s : State) : Host.Outcome State Fault Refusal := .next (s.event State.tick)

/-- SETTLE_TIMEOUT (R121). -/
def execSettleTimeout (s : State) : Host.Outcome State Fault Refusal := .next (s.event State.settleExpired)

/-! ## Ring (R179, R180) -/

/-- RING_SCAN. -/
def execRingScan (s : State) : Host.Outcome State Fault Refusal := .next (s.event State.takeScan)

/-- RING_FRAME_RECEIVED. -/
def execRingFrameReceived (bytes : List Byte) (s : State) : Host.Outcome State Fault Refusal :=
  .next (s.event (State.takeRingFrame bytes))

/-! ## Supervision of a station (R80, R81) -/

/-- Stage 1 expires in WORKING: LATE, and stage 2. -/
def State.stage1Expires (k : Nat) (s : State) : State :=
  let u := s.unit k
  match u.operation with
  | none => s
  | some o =>
    if s.stationInLine k ∧ u.state = .working ∧ expired u.stage1 then
      (s.report (.late k o.pallet o.program (elapsedSince o.start s.timeBase))).modUnit k fun x =>
        { x with state := .late, stage1 := none, stage2 := x.config.stage2Load }
    else s

/-- STAGE1_EXPIRY. -/
def execStage1Expiry (station : Nat) (s : State) : Host.Outcome State Fault Refusal :=
  .next (s.event (State.stage1Expires station))

/-- The overrun policy acts (R81): STATION ABANDONING comes before the OPERATION END of the same event (log 75). -/
def State.overrun (k : Nat) (s : State) : State :=
  match (s.unit k).config.policy with
  | .hold => s.unitFault k .overrun
  | .abandon =>
    (((s.modUnit k (StationUnit.setResult .timedOut)).reportAbandoning k .overrun).enterAbandoning k).judgeReady

/-- Stage 2 expires in LATE. -/
def State.stage2Expires (k : Nat) (s : State) : State :=
  let u := s.unit k
  if s.stationInLine k ∧ u.state = .late ∧ expired u.stage2 then s.overrun k else s

/-- STAGE2_EXPIRY. -/
def execStage2Expiry (station : Nat) (s : State) : Host.Outcome State Fault Refusal :=
  .next (s.event (State.stage2Expires station))

/-! ## Index (R52 to R56, R99, R102) -/

/-- INDEX_START: the readiness conditions are evaluated (R52, R56; log 7). -/
def execIndexStart (s : State) : Host.Outcome State Fault Refusal := .next (s.event State.judgeReady)

/-- PHASE_TIMEOUT (R99). -/
def execPhaseTimeout (s : State) : Host.Outcome State Fault Refusal := .next (s.event State.commandExpired)

/-- LIFT_TIMEOUT (R102). -/
def execLiftTimeout (s : State) : Host.Outcome State Fault Refusal := .next (s.event State.movementExpired)

/-- The wait timer expires in WAIT (R54). -/
def State.waitExpires (s : State) : State :=
  if s.inWait ∧ expired s.isq.waitTimer then
    (s.modIsq fun q => { q with waitTimer := none }).report (.waiting s.falseConditions)
  else s

/-- WAITING. -/
def execWaiting (s : State) : Host.Outcome State Fault Refusal := .next (s.event State.waitExpires)

/-! ## Seating (R95, R101, R105, R108) -/

/-- The stagger wait of a CLAMP command runs out (R101). -/
def State.staggerExpires (s : State) : State :=
  match s.sct.clampWait with
  | none => s
  | some w =>
    if w.timer = 0 then
      (s.modSct fun t => { t with clampWait := none }).requestPulses (w.stations.map .clamp) .engage (.phase .clamp)
    else s

/-- CLAMP_STAGGER. -/
def execClampStagger (s : State) : Host.Outcome State Fault Refusal := .next (s.event State.staggerExpires)

/-- PULSE_END (R95). -/
def execPulseEnd (channel : ChannelId) (s : State) : Host.Outcome State Fault Refusal :=
  .next (s.event (State.endPulse channel))

/-- The timer of a position request expires (R105). -/
def State.requestExpires (id : RequestId) (s : State) : State :=
  if s.sct.requests.any (fun r => r.id == id && r.timer == 0) then (s.requestTimedOut id).judgeReady else s

/-- POSITION_REQUEST_TIMEOUT. -/
def execPositionRequestTimeout (request : RequestId) (s : State) : Host.Outcome State Fault Refusal :=
  .next (s.event (State.requestExpires request))

/-- The top-up timer expires in a held interval (R108; log 45). -/
def State.topUpExpires (s : State) : State :=
  if s.sct.held ∧ expired s.sct.topUpTimer then
    let t := (s.modSct fun x => { x with topUpTimer := none }).topUpGroup .a
    if t.sct.settings.stagger = 0 then t.topUpGroupB
    else t.modSct fun x => { x with topUp := .stagger x.settings.stagger }
  else s

/-- TOPUP. -/
def execTopup (s : State) : Host.Outcome State Fault Refusal := .next (s.event State.topUpExpires)

/-- The stagger wait of a top-up runs out (R108). -/
def State.topUpStaggerExpires (s : State) : State :=
  match s.sct.topUp with
  | .stagger t => if t = 0 then s.topUpGroupB else s
  | .idle => s
  | .groupB => s

/-- TOPUP_STAGGER. -/
def execTopupStagger (s : State) : Host.Outcome State Fault Refusal := .next (s.event State.topUpStaggerExpires)

/-! ## Feed (R143, R144, R146, R150) -/

/-- FEED_START: the start conditions are judged (R143; log 7). -/
def execFeedStart (s : State) : Host.Outcome State Fault Refusal := .next (s.event State.judgeFeed)

/-- The feed timer expires with the gate open (R144). -/
def State.feedExpires (s : State) : State :=
  if s.fdu.state = .feeding ∧ s.fdu.gate ∧ expired s.fdu.feedTimer then (s.failFeed .arrival .timeout).judgeReady
  else s

/-- FEED_TIMEOUT. -/
def execFeedTimeout (s : State) : Host.Outcome State Fault Refusal := .next (s.event State.feedExpires)

/-- The read timer expires in READING: the result is NOREAD (R146). -/
def State.readExpires (s : State) : State :=
  if s.fdu.state = .reading ∧ expired s.fdu.readTimer then
    ((s.modFdu fun f => { f with read := false, readTimer := none }).resolve (.noread .timeout)).judge
  else s

/-- READ_TIMEOUT. -/
def execReadTimeout (s : State) : Host.Outcome State Fault Refusal := .next (s.event State.readExpires)

/-- The load-wait timer expires in AWAITING_BLOCK (R150): LOAD WAIT EXPIRED comes before LOAD STATE (log 58). -/
def State.loadWaitExpires (s : State) : State :=
  if s.fdu.state = .awaitingBlock ∧ expired s.fdu.loadWait then
    let t := (s.modFdu fun f => { f with loadWait := none }).report
      (.loadWaitExpired ((s.palletAt 0).getD 0) s.fdu.settings.policy)
    match s.fdu.settings.policy with
    | .wait => t
    | .runEmpty => t.declareEmpty.judgeReady
  else s

/-- LOAD_WAIT_EXPIRED. -/
def execLoadWaitExpired (s : State) : Host.Outcome State Fault Refusal := .next (s.event State.loadWaitExpires)

end Sys2Proof.Machine
end

