-- ==== Sys2Proof/Machine/LinkLine.lean ====
section
/-! DEFINITION. The line of the cell link and the reset pin as commands: bytes, gaps, framing errors, the break,
the end of a frame sent, RST and power (R167, R168, R173, R174, R182). -/

namespace Sys2Proof.Machine

/-- Bytes come one after the other on the receive line, each an event of its own (R167, R168; log 6). -/
def execFrameReceived (bytes : List Byte) (s : State) : Host.Outcome State Fault Refusal :=
  .next (bytes.foldl (fun t b => t.event (State.takeByte b)) s)

/-- A byte of 241..255, taken by the table of R167: in state LENGTH it abandons the frame (log 6). -/
def execFrameAbandonLength (byte : Byte) (s : State) : Host.Outcome State Fault Refusal :=
  .next (s.event (State.takeByte byte))

/-- A gap of more than 5 ms (R167). -/
def execFrameGap (s : State) : Host.Outcome State Fault Refusal := .next (s.event State.takeGap)

/-- A byte with a framing error (R167). -/
def execFramingError (s : State) : Host.Outcome State Fault Refusal := .next (s.event State.takeFramingError)

/-- Space for 20 ms (R50, R173). -/
def execLinkBreak (s : State) : Host.Outcome State Fault Refusal := .next (s.event State.takeBreak)

/-- The line returns to mark (R173). -/
def execBreakEnd (s : State) : Host.Outcome State Fault Refusal := .next (s.event State.endBreak)

/-- The transmitter ends a frame and chooses the next (R174). -/
def execTransmitDone (s : State) : Host.Outcome State Fault Refusal := .next (s.event State.endFrame)

/-- The rate two strap levels select, in ascending order (Table 11-2). -/
def strapRate (rate1 rate0 : Bool) : Nat := 2 * rate1.toNat + rate0.toNat

/-- Power comes or RST rises: every block in its power-on reset condition, the strap read (R182). The commands
that wait are the model's own and stay. -/
def execPowerOnReset (rate1 rate0 : Bool) (s : State) : Host.Outcome State Fault Refusal :=
  .next { State.powerOn (strapRate rate1 rate0) (resetReports (strapRate rate1 rate0)) with pending := s.pending }

/-- RST goes low: every block in its power-on reset condition, no frame sent (R182; log 4). -/
def execRstAssert (s : State) : Host.Outcome State Fault Refusal :=
  .next { State.powerOn s.clu.rate [] with inReset := true, pending := s.pending }

end Sys2Proof.Machine
end

