-- ==== Sys2Proof/Machine/LinkRequests.lean ====
section
/-! DEFINITION. The requests of the cell link as commands: each is the arrival of that valid request frame
(R171, R172; log 5). What the owning block does is in Machine/Requests.lean. -/

namespace Sys2Proof.Machine

/-- IDENT (R177). -/
def execIdent (tag : Byte) (s : State) :
    Host.Outcome State Fault Refusal :=
  .next (s.requestEvent .ident tag)

/-- QUERY STATUS (R67). -/
def execQueryStatus (tag : Byte) (s : State) :
    Host.Outcome State Fault Refusal :=
  .next (s.requestEvent .queryStatus tag)

/-- QUERY STATION (R92). -/
def execQueryStation (tag : Byte) (station : Byte) (s : State) :
    Host.Outcome State Fault Refusal :=
  .next (s.requestEvent (.queryStation station) tag)

/-- QUERY PALLET (R24). -/
def execQueryPallet (tag : Byte) (id : Byte) (s : State) :
    Host.Outcome State Fault Refusal :=
  .next (s.requestEvent (.queryPallet id) tag)

/-- QUERY MAP (R24). -/
def execQueryMap (tag : Byte) (s : State) :
    Host.Outcome State Fault Refusal :=
  .next (s.requestEvent .queryMap tag)

/-- QUERY QUEUE (R24). -/
def execQueryQueue (tag : Byte) (s : State) :
    Host.Outcome State Fault Refusal :=
  .next (s.requestEvent .queryQueue tag)

/-- SET LINE (R46, Table 10-3). -/
def execSetLine (tag : Byte) (fields : LineFields) (s : State) :
    Host.Outcome State Fault Refusal :=
  .next (s.requestEvent (.setLine fields) tag)

/-- SET STATION (R70, R71). -/
def execSetStation (tag : Byte) (fields : StationFields) (s : State) :
    Host.Outcome State Fault Refusal :=
  .next (s.requestEvent (.setStation fields) tag)

/-- SET ROUTE (R33). -/
def execSetRoute (tag : Byte) (route : Byte) (programs : List Byte) (s : State) :
    Host.Outcome State Fault Refusal :=
  .next (s.requestEvent (.setRoute route programs) tag)

/-- CAM WRITE (R130). -/
def execCamWrite (tag : Byte) (bank : Byte) (start : Byte) (points : List PointFields) (s : State) :
    Host.Outcome State Fault Refusal :=
  .next (s.requestEvent (.camWrite bank start points) tag)

/-- CAM ARM (R131). -/
def execCamArm (tag : Byte) (bank : Byte) (s : State) :
    Host.Outcome State Fault Refusal :=
  .next (s.requestEvent (.camArm bank) tag)

/-- CAM DISARM (R132). -/
def execCamDisarm (tag : Byte) (bank : Byte) (s : State) :
    Host.Outcome State Fault Refusal :=
  .next (s.requestEvent (.camDisarm bank) tag)

/-- PALLET ENROL with place TAIL (R17). -/
def execPalletEnrolTail (tag : Byte) (id : Byte) (s : State) :
    Host.Outcome State Fault Refusal :=
  .next (s.requestEvent (.palletEnrol 0 id) tag)

/-- PALLET ENROL with place LOAD (R18). -/
def execPalletEnrolLoad (tag : Byte) (id : Byte) (s : State) :
    Host.Outcome State Fault Refusal :=
  .next (s.requestEvent (.palletEnrol 1 id) tag)

/-- PALLET PLACE (R19). -/
def execPalletPlace (tag : Byte) (id : Byte) (position : Byte) (block : Option BlockFields) (s : State) :
    Host.Outcome State Fault Refusal :=
  .next (s.requestEvent (.palletPlace id position block) tag)

/-- PALLET UNPLACE (R20). -/
def execPalletUnplace (tag : Byte) (position : Byte) (s : State) :
    Host.Outcome State Fault Refusal :=
  .next (s.requestEvent (.palletUnplace position) tag)

/-- PALLET ADMIT (R21). -/
def execPalletAdmit (tag : Byte) (id : Byte) (resetCount : Bool) (s : State) :
    Host.Outcome State Fault Refusal :=
  .next (s.requestEvent (.palletAdmit id resetCount) tag)

/-- PALLET WITHDRAW (R22). -/
def execPalletWithdraw (tag : Byte) (id : Byte) (s : State) :
    Host.Outcome State Fault Refusal :=
  .next (s.requestEvent (.palletWithdraw id) tag)

/-- PALLET RETIRE (R23). -/
def execPalletRetire (tag : Byte) (id : Byte) (s : State) :
    Host.Outcome State Fault Refusal :=
  .next (s.requestEvent (.palletRetire id) tag)

/-- BLOCK ASSIGN (R36). -/
def execBlockAssign (tag : Byte) (serial : List Byte) (variant : Byte) (s : State) :
    Host.Outcome State Fault Refusal :=
  .next (s.requestEvent (.blockAssign serial variant) tag)

/-- BLOCK EMPTY (R37). -/
def execBlockEmpty (tag : Byte) (s : State) :
    Host.Outcome State Fault Refusal :=
  .next (s.requestEvent .blockEmpty tag)

/-- DISPOSE (R42). -/
def execDispose (tag : Byte) (id : Byte) (disposition : Byte) (s : State) :
    Host.Outcome State Fault Refusal :=
  .next (s.requestEvent (.dispose id disposition) tag)

/-- STATION OUT (R91). -/
def execStationOut (tag : Byte) (station : Byte) (s : State) :
    Host.Outcome State Fault Refusal :=
  .next (s.requestEvent (.stationOut station) tag)

/-- STATION IN (R91). -/
def execStationIn (tag : Byte) (station : Byte) (s : State) :
    Host.Outcome State Fault Refusal :=
  .next (s.requestEvent (.stationIn station) tag)

/-- FAULT CLEAR with action RETRY (R88, R89). -/
def execFaultClearRetry (tag : Byte) (station : Byte) (s : State) :
    Host.Outcome State Fault Refusal :=
  .next (s.requestEvent (.faultClear station 0) tag)

/-- FAULT CLEAR with action ABANDON (R88, R90). -/
def execFaultClearAbandon (tag : Byte) (station : Byte) (s : State) :
    Host.Outcome State Fault Refusal :=
  .next (s.requestEvent (.faultClear station 1) tag)

/-- RUN (R47, R48). -/
def execRun (tag : Byte) (s : State) :
    Host.Outcome State Fault Refusal :=
  .next (s.requestEvent .run tag)

/-- HOLD (R49). -/
def execHold (tag : Byte) (s : State) :
    Host.Outcome State Fault Refusal :=
  .next (s.requestEvent .hold tag)

/-- STOP (R51). -/
def execStop (tag : Byte) (s : State) :
    Host.Outcome State Fault Refusal :=
  .next (s.requestEvent .stop tag)

/-- RECOVER with FORWARD (R158, R160). -/
def execRecoverForward (tag : Byte) (s : State) :
    Host.Outcome State Fault Refusal :=
  .next (s.requestEvent (.recover 0) tag)

/-- RECOVER with BACKWARD (R158, R162). -/
def execRecoverBackward (tag : Byte) (s : State) :
    Host.Outcome State Fault Refusal :=
  .next (s.requestEvent (.recover 1) tag)

/-- TRIAL (R139). -/
def execTrial (tag : Byte) (bank : Byte) (s : State) :
    Host.Outcome State Fault Refusal :=
  .next (s.requestEvent (.trial bank) tag)

/-- REPORT MASK (R175). -/
def execReportMask (tag : Byte) (event : Bool) (trace : Bool) (s : State) :
    Host.Outcome State Fault Refusal :=
  .next (s.requestEvent (.reportMask event trace) tag)

/-- ECHO (R177). -/
def execEcho (tag : Byte) (payload : List Byte) (s : State) :
    Host.Outcome State Fault Refusal :=
  .next (s.requestEvent (.echo payload) tag)

/-- RESTART (R164). -/
def execRestart (tag : Byte) (s : State) :
    Host.Outcome State Fault Refusal :=
  .next (s.requestEvent .restart tag)

/-- A request frame whose kind names no request (R169): it arrives like any other frame and is refused at its
execution. A kind outside 01h..3Fh is discarded. While a break lasts too it arrives (R173; log 68). -/
def execUnknownRequest (tag kind : Byte) (payload : List Byte) (s : State) : Host.Outcome State Fault Refusal :=
  .next (s.event (State.takeFrame { kind := kind, tag := tag, payload := payload }))

end Sys2Proof.Machine
end

