-- ==== Sys2Proof/Machine/Dispatch.lean ====
section
/-! DEFINITION. The command's meaning by constructor. -/

namespace Sys2Proof.Machine

def exec (i : Instr) (s : State) : Host.Outcome State Fault Refusal :=
  match i with
  | .ident tag => Sys2Proof.Machine.execIdent tag s
  | .queryStatus tag => Sys2Proof.Machine.execQueryStatus tag s
  | .queryStation tag station => Sys2Proof.Machine.execQueryStation tag station s
  | .queryPallet tag id => Sys2Proof.Machine.execQueryPallet tag id s
  | .queryMap tag => Sys2Proof.Machine.execQueryMap tag s
  | .queryQueue tag => Sys2Proof.Machine.execQueryQueue tag s
  | .setLine tag fields => Sys2Proof.Machine.execSetLine tag fields s
  | .setStation tag fields => Sys2Proof.Machine.execSetStation tag fields s
  | .setRoute tag route programs => Sys2Proof.Machine.execSetRoute tag route programs s
  | .camWrite tag bank start points => Sys2Proof.Machine.execCamWrite tag bank start points s
  | .camArm tag bank => Sys2Proof.Machine.execCamArm tag bank s
  | .camDisarm tag bank => Sys2Proof.Machine.execCamDisarm tag bank s
  | .palletEnrolTail tag id => Sys2Proof.Machine.execPalletEnrolTail tag id s
  | .palletEnrolLoad tag id => Sys2Proof.Machine.execPalletEnrolLoad tag id s
  | .palletPlace tag id position block => Sys2Proof.Machine.execPalletPlace tag id position block s
  | .palletUnplace tag position => Sys2Proof.Machine.execPalletUnplace tag position s
  | .palletAdmit tag id resetCount => Sys2Proof.Machine.execPalletAdmit tag id resetCount s
  | .palletWithdraw tag id => Sys2Proof.Machine.execPalletWithdraw tag id s
  | .palletRetire tag id => Sys2Proof.Machine.execPalletRetire tag id s
  | .blockAssign tag serial variant => Sys2Proof.Machine.execBlockAssign tag serial variant s
  | .blockEmpty tag => Sys2Proof.Machine.execBlockEmpty tag s
  | .dispose tag id disposition => Sys2Proof.Machine.execDispose tag id disposition s
  | .stationOut tag station => Sys2Proof.Machine.execStationOut tag station s
  | .stationIn tag station => Sys2Proof.Machine.execStationIn tag station s
  | .faultClearRetry tag station => Sys2Proof.Machine.execFaultClearRetry tag station s
  | .faultClearAbandon tag station => Sys2Proof.Machine.execFaultClearAbandon tag station s
  | .run tag => Sys2Proof.Machine.execRun tag s
  | .hold tag => Sys2Proof.Machine.execHold tag s
  | .stop tag => Sys2Proof.Machine.execStop tag s
  | .recoverForward tag => Sys2Proof.Machine.execRecoverForward tag s
  | .recoverBackward tag => Sys2Proof.Machine.execRecoverBackward tag s
  | .trial tag bank => Sys2Proof.Machine.execTrial tag bank s
  | .reportMask tag event trace => Sys2Proof.Machine.execReportMask tag event trace s
  | .echo tag payload => Sys2Proof.Machine.execEcho tag payload s
  | .restart tag => Sys2Proof.Machine.execRestart tag s
  | .unknownRequest tag kind payload => Sys2Proof.Machine.execUnknownRequest tag kind payload s
  | .frameReceived bytes => Sys2Proof.Machine.execFrameReceived bytes s
  | .frameGap => Sys2Proof.Machine.execFrameGap s
  | .framingError => Sys2Proof.Machine.execFramingError s
  | .linkBreak => Sys2Proof.Machine.execLinkBreak s
  | .breakEnd => Sys2Proof.Machine.execBreakEnd s
  | .transmitDone => Sys2Proof.Machine.execTransmitDone s
  | .powerOnReset rate1 rate0 => Sys2Proof.Machine.execPowerOnReset rate1 rate0 s
  | .rstAssert => Sys2Proof.Machine.execRstAssert s
  | .driveFeedbackReceived bytes => Sys2Proof.Machine.execDriveFeedbackReceived bytes s
  | .motionTick => Sys2Proof.Machine.execMotionTick s
  | .settleTimeout => Sys2Proof.Machine.execSettleTimeout s
  | .ringScan => Sys2Proof.Machine.execRingScan s
  | .ringFrameReceived bytes => Sys2Proof.Machine.execRingFrameReceived bytes s
  | .stage1Expiry station => Sys2Proof.Machine.execStage1Expiry station s
  | .stage2Expiry station => Sys2Proof.Machine.execStage2Expiry station s
  | .indexStart => Sys2Proof.Machine.execIndexStart s
  | .phaseTimeout => Sys2Proof.Machine.execPhaseTimeout s
  | .liftTimeout => Sys2Proof.Machine.execLiftTimeout s
  | .clampStagger => Sys2Proof.Machine.execClampStagger s
  | .pulseEnd channel => Sys2Proof.Machine.execPulseEnd channel s
  | .positionRequestTimeout request => Sys2Proof.Machine.execPositionRequestTimeout request s
  | .topup => Sys2Proof.Machine.execTopup s
  | .topupStagger => Sys2Proof.Machine.execTopupStagger s
  | .waiting => Sys2Proof.Machine.execWaiting s
  | .feedStart => Sys2Proof.Machine.execFeedStart s
  | .feedTimeout => Sys2Proof.Machine.execFeedTimeout s
  | .readTimeout => Sys2Proof.Machine.execReadTimeout s
  | .loadWaitExpired => Sys2Proof.Machine.execLoadWaitExpired s
  | .frameAbandonLength byte => Sys2Proof.Machine.execFrameAbandonLength byte s

end Sys2Proof.Machine
end

