-- ==== Sys2Proof/Safety.lean ====
section
/-! DEFINITION. The terms the statements use: when the cell link lets a request be executed at once, what a step
leaves with a reply placed, and what every step keeps. -/

namespace Sys2Proof.Machine

/-- The part is out of reset, a frame is being sent, the reply slot is empty and no request waits: a request that
arrives is executed in its own event (R172). -/
abbrev State.Free (s : State) : Prop :=
  s.inReset = false ∧ s.clu.transmitting.isSome = true ∧ s.clu.replySlot = none ∧ s.clu.requestQueue = []

/-- The part is out of reset, a frame is being sent, and no request can be executed: an event of the field side
meets no work of the Cell Link Unit but OVERFLOW. -/
abbrev State.Calm (s : State) : Prop :=
  s.inReset = false ∧ s.clu.transmitting.isSome = true ∧ (s.clu.replySlot.isSome = true ∨ s.clu.requestQueue = [])

/-- The state with the reply placed in the slot, and OVERFLOW queued where the record is pending and there is room
(R172, R176). -/
def State.answered (kind tag : Byte) (a : Answer) (s : State) : State := (s.placeReply kind tag a).flushOverflow

/-- The request fits a frame (R167), an ECHO with room for the status byte (R177). -/
def Request.fits (r : Request) : Bool :=
  match r with
  | .echo l => l.length < Config.maxPayload
  | .ident | .queryStatus | .queryStation _ | .queryPallet _ | .queryMap | .queryQueue | .setLine _ | .setStation _
  | .setRoute _ _ | .camWrite _ _ _ | .camArm _ | .camDisarm _ | .palletEnrol _ _ | .palletPlace _ _ _
  | .palletUnplace _ | .palletAdmit _ _ | .palletWithdraw _ | .palletRetire _ | .blockAssign _ _ | .blockEmpty
  | .dispose _ _ | .stationOut _ | .stationIn _ | .faultClear _ _ | .run | .hold | .stop | .recover _ | .trial _
  | .reportMask _ _ | .restart => r.payload.length ≤ Config.maxPayload

/-- What the Cell Link Unit's lists never exceed, that a request waits only while the reply slot is taken (R171,
R172, R176), and that the time base count keeps to its 32 bits (R175). -/
structure State.Safe (s : State) : Prop where
  requests : s.clu.requestQueue.length ≤ Config.requestSlots
  busy : s.clu.busyList.length ≤ Config.busySlots
  reports : s.clu.reports.length ≤ Config.reportSlots
  waiting : s.clu.replySlot = none → s.clu.requestQueue = []
  time : s.timeBase < Config.wrap32

/-- The phase in hand while RUNNING, the halt phase while HALTED. -/
def State.phaseInHand (s : State) : Option Phase := if s.isq.line = .running then s.isq.phase else s.haltPhase

/-- RELEASE, WITHDRAW, LIFT and ADVANCE: a shift may still come. -/
def Phase.beforeShift (ph : Phase) : Bool := ph == .release || ph == .withdraw || ph == .lift || ph == .advance

/-- RELEASE to VERIFY: no station has been told of the end of VERIFY (R60). -/
def Phase.beforeReturn (ph : Phase) : Bool := ph != .wait && ph != .returning

/-- The pallet id a map slot holds (R6). -/
def Slot.id : Slot → Option Nat
  | .pallet id => some id
  | .empty => none
  | .foreign _ => none

/-- The ids of the three places: the map, the return queue, the offline set (R5). -/
def State.places (s : State) : List Nat := s.prg.map.filterMap Slot.id ++ s.prg.queue ++ s.prg.offline

/-- The position-0 state goes with the content of slot 0, and a pallet that waits carries no block (R141). -/
def State.LoadAgrees (s : State) : Prop :=
  match s.fdu.state with
  | .empty => s.slot 0 = .empty
  | .feeding => s.slot 0 = .empty
  | .seating => s.slot 0 = .empty
  | .reading => s.slot 0 = .empty
  | .awaitingBlock => (s.palletAt 0).isSome = true ∧ s.blockAt 0 = none
  | .ready => (s.palletAt 0).isSome = true
  | .foreign => s.foreignId.isSome = true

/-- The register is sound: no two records of one id and at most 64 (R4); every id in exactly one place (R5); N+2 slots
(R6); at most C ids in the return queue, C at most 32 (R7, R8); room for the pallet at N+1 before the shift (R9); the
position-0 state with its slot (R141), and a load disagreement in READY alone (R38). -/
structure State.RegisterSound (s : State) : Prop where
  ids : s.prg.records.Pairwise fun a b => a.id < b.id
  count : s.prg.records.length ≤ 64
  places : s.places.Perm (s.prg.records.map Pallet.id)
  configured : s.isq.line = .unconfigured ↔ s.isq.stations = none
  slots : s.prg.map.length = match s.isq.stations with | none => 0 | some n => n + 2
  capacity : 1 ≤ s.prg.capacity ∧ s.prg.capacity ≤ 32
  queue : s.prg.queue.length ≤ s.prg.capacity
  openIndex : s.phaseInHand.any Phase.beforeShift = true → s.prg.openIndex = true
  room : s.phaseInHand.any Phase.beforeShift = true → ∀ r, s.unloadPallet = some r →
    r.diverts s.prg.inspectionLimit = false → s.prg.queue.length < s.prg.capacity
  idle : s.isq.line = .unconfigured → s.fdu.state = .empty
  load : s.LoadAgrees
  disagreement : s.prg.disagreement.isSome = true → s.fdu.state = .ready

/-- A unit is sound: START is on only in WORKING and LATE and in a fault taken there (R75); SEATED outlasts no event
(R73); the operation and the fault record are there while their states ask for them (R74); START waits for the scan
notice only while it is off in WORKING or LATE (R89). -/
structure StationUnit.Sound (u : StationUnit) : Prop where
  start : u.start = true → u.state = .working ∨ u.state = .late ∨
    (u.state = .faulted ∧ u.fault.any (fun f => f.resume == .operation) = true)
  seated : u.state ≠ .seated
  operation : u.state = .working ∨ u.state = .late ∨ u.state = .abandoning → u.operation.isSome = true
  fault : u.state = .faulted ↔ u.fault.isSome = true
  interrupted : u.fault.any (fun f => f.resume == .operation || f.resume == .abandon) = true → u.operation.isSome = true
  waiting : u.restartWait = true → u.start = false ∧ (u.state = .working ∨ u.state = .late)

/-- The unit has nothing in hand: VACANT, COMPLETE, or a fault taken there (R52). -/
def StationUnit.quiet (u : StationUnit) : Bool :=
  u.state == .vacant || u.state == .complete ||
    (u.state == .faulted && u.fault.any fun f => f.resume == .vacant || f.resume == .complete)

/-- The units, the bar and the banks are sound: the units of a line in RELEASE to VERIFY have nothing in hand (R52, R60);
the commanded position lies in 0..S (R119); a bank holds at most 32 points, at most one bank is ACTIVE and at most one
ARMED (R129). -/
structure State.EquipmentSound (s : State) : Prop where
  units : ∀ u ∈ s.stu, u.Sound
  quiet : s.phaseInHand.any Phase.beforeReturn = true → ∀ k, 1 ≤ k → k ≤ s.n → (s.unit k).quiet = true
  bar : 0 ≤ s.mgn.commanded ∧ s.mgn.commanded ≤ s.mgn.settings.stroke
  points : s.cam.bankA.points.length ≤ 32 ∧ s.cam.bankB.points.length ≤ 32
  active : ¬(s.cam.bankA.state = .active ∧ s.cam.bankB.state = .active)
  armed : ¬(s.cam.bankA.state = .armed ∧ s.cam.bankB.state = .armed)

/-- The blocks as a power-on reset leaves them, less the report queue, the rate and RST (R25, R32, R39, R68, R94, R111, R126,
R129, R138, R141, R142, R159, R178, R179). -/
structure State.InResetCondition (s : State) : Prop where
  timeBase : s.timeBase = 0
  prg : s.prg =
    { records := [], map := [], queue := [], offline := [], indexCount := 0, openIndex := false, capacity := 16
      inspectionLimit := 0, watch := .idle, disagreement := none }
  rtb : s.rtb = List.replicate 8 (List.replicate 24 0)
  isq : s.isq =
    { line := .unconfigured, phase := none, stations := none, holdPending := false, released := false
      withdrawn := false, lifted := false, waitTimer := none, waitDelay := 20, haltRecord := none, course := .forward
      seatEdit := false, haltCount := 0, recovered := false, indexStart := 0, shiftTaken := false }
  stu : s.stu = List.replicate 24
    { config := { kind := .idle, group := none, faultMode := .edge, policy := .hold, p1 := 600, p2 := 300, finalGauge := false }
      state := .vacant, inService := true, clampWatch := false, operation := none, fault := none, start := false
      restartWait := false, stage1 := none, stage2 := none }
  sct : s.sct =
    { locators := [], clamps := [], lift := { pulse := none, commanded := none, pending := none }, command := none
      clampWait := none, liftState := .unknown, movement := none, requests := [], held := false, topUpTimer := none
      topUp := .idle
      settings :=
        { pulse := 150, stagger := 300, release := 3000, locate := 3000, clamp := 3000, lift := 3000, topUp := 60 } }
  mgn : s.mgn =
    { drive := .lost, missed := 3, enable := false, commanded := 0, velocity := 0, lastFeedback := none, received := none
      motion := .atRest, plan := none, quick := none, errorCount := 0, peakError := 0, settleTimer := none, settleTime := 0
      settings :=
        { stroke := 650000, velocity := 1000, acceleration := 5, quickStop := 10, errorLimit := 2000, persistence := 5
          band := 50, settle := 200 }
      sequence := 0, sent := none }
  cam : s.cam =
    { bankA := { state := .open_, points := [], underTrial := false }
      bankB := { state := .open_, points := [], underTrial := false }, stroke := none, trial := none
      aux := List.replicate 8 false }
  fdu : s.fdu =
    { state := .empty, expected := none, mode := none, feedTimer := none, readTimer := none, loadWait := none
      loadHold := false, gate := false, read := false
      settings := { feed := 10, read := 1000, loadWait := 30, policy := .wait } }
  rgc : s.rgc =
    { nodes := [{ addr := 30, state := .pending, image := none, missed := 0, scansMissed := 0 }], scan := none
      sequence := 0 }
  link : { s.clu with reports := [], rate := 0 } =
    { framer := .hunt, breakSeen := false, requestQueue := [], replySlot := none, busyList := [], busyAhead := 0
      reports := [], overflow := { alarms := 0, events := 0, traces := 0, first := none }, transmitting := none
      eventOn := true, traceOn := true, rate := 0
      counts := { gap := 0, length := 0, crc := 0, framing := 0, kind := 0, busy := 0, dropped := 0 } }

/-- The settings of SET LINE and the route table (R7, R32, R46, R98, R116, R142). -/
def State.setup (s : State) :
    Option Nat × Nat × Nat × Nat × SeatSettings × MotionSettings × FeedSettings × List (List Nat) :=
  (s.isq.stations, s.isq.waitDelay, s.prg.capacity, s.prg.inspectionLimit, s.sct.settings, s.mgn.settings,
    s.fdu.settings, s.rtb)

end Sys2Proof.Machine

namespace Sys2Proof

/-- The commands that come from the field side: the drive, the tick, the ring and the timers. -/
def Instr.isField : Instr → Bool
  | .driveFeedbackReceived _ | .motionTick | .settleTimeout | .ringScan | .ringFrameReceived _ | .stage1Expiry _
  | .stage2Expiry _ | .indexStart | .phaseTimeout | .liftTimeout | .clampStagger | .pulseEnd _
  | .positionRequestTimeout _ | .topup | .topupStagger | .waiting | .feedStart | .feedTimeout | .readTimeout
  | .loadWaitExpired => true
  | .ident _ | .queryStatus _ | .queryStation _ _ | .queryPallet _ _ | .queryMap _ | .queryQueue _ | .setLine _ _
  | .setStation _ _ | .setRoute _ _ _ | .camWrite _ _ _ _ | .camArm _ _ | .camDisarm _ _ | .palletEnrolTail _ _
  | .palletEnrolLoad _ _ | .palletPlace _ _ _ _ | .palletUnplace _ _ | .palletAdmit _ _ _ | .palletWithdraw _ _
  | .palletRetire _ _ | .blockAssign _ _ _ | .blockEmpty _ | .dispose _ _ _ | .stationOut _ _ | .stationIn _ _
  | .faultClearRetry _ _ | .faultClearAbandon _ _ | .run _ | .hold _ | .stop _ | .recoverForward _
  | .recoverBackward _ | .trial _ _ | .reportMask _ _ _ | .echo _ _ | .restart _ | .unknownRequest _ _ _
  | .frameReceived _ | .frameGap | .framingError | .linkBreak | .breakEnd | .transmitDone | .powerOnReset _ _
  | .rstAssert | .frameAbandonLength _ => false

end Sys2Proof
end

