-- ==== Sys2Proof/Certificates/Slice0/Obligations.lean ====
section
/-! DEFINITION. The statements for the provers. `s.Free` and `s.Calm` say that the link is in the ordinary state in
which a request, or a field event, meets no other work of CLU; `answered` places the reply. -/

open Sys2Proof Sys2Proof.Machine

/-! ## The machine as a whole -/

/-- One step executes the command at the front of the queue on the state with the rest of the queue; with an empty
queue the state stays (log 2). -/
def Obligations.StepTakesTheFrontCommand : Prop :=
  (∀ (s : State) (c : Instr) (rest : List Instr), s.pending = c :: rest → step s = exec c { s with pending := rest }) ∧
    ∀ s : State, s.pending = [] → step s = .next s

/-- No command touches the queue of waiting commands, and every command answers a next state (R1: the manual gives
every event an effect). -/
def Obligations.EveryCommandCompletesAndKeepsTheQueue : Prop :=
  ∀ (c : Instr) (s : State), ∃ t, exec c s = .next t ∧ t.pending = s.pending

/-- What `State.Safe` says is kept by every step (R171, R172, R175, R176). -/
def Obligations.EveryStepKeepsTheLinkSafe : Prop :=
  ∀ s t : State, s.Safe → step s = .next t → t.Safe

/-- The reset state meets the bounds of the link, and its register, its units, its bar and its banks are sound. -/
def Obligations.ResetIsSafe : Prop :=
  State.reset.Safe ∧ State.reset.RegisterSound ∧ State.reset.EquipmentSound

/-- A refused request changes no state of the part, whether its owning block refuses it or CLU's own checks of the frame do
(R1, R169, R170). -/
def Obligations.RefusedRequestChangesNothing : Prop :=
  (∀ (q : Request) (s : State) (why : Reason) (detail : List Byte),
    (q.perform s).1 = .refused why detail → (q.perform s).2 = s) ∧
    ∀ (f : Frame) (s : State) (why : Reason) (detail : List Byte),
      (s.execute f).1 = .refused why detail → (s.execute f).2 = s

/-- With no request waiting, no event of the field side changes a setting of SET LINE or the route table (R7, R32,
R46, R98, R116, R142): those fields are changed by requests and by power-on reset. -/
def Obligations.FieldEventsKeepTheSetup : Prop :=
  ∀ (c : Instr) (s t : State), c.isField = true → s.clu.requestQueue = [] → exec c s = .next t → t.setup = s.setup

/-! ## Encoding (R167 to R170) -/

/-- The payload of every request that fits a frame is read back as that request, with every field. The flag byte of PALLET
ADMIT follows log 43. -/
def Obligations.RequestsReadBack : Prop :=
  ∀ q : Request, q.fits = true → Request.parse q.kind q.payload = .ok q

/-- The bytes of a frame, taken one by one from HUNT, give that valid frame and leave the framer in HUNT. -/
def Obligations.FramesReadBack : Prop :=
  ∀ (s : State) (kind tag : Byte) (payload : List Byte), payload.length ≤ 240 → s.clu.framer = .hunt →
    s.clu.breakSeen = false →
    (linkFrame kind tag payload).foldl (fun t b => t.takeByte b) s =
      s.takeFrame { kind := kind, tag := tag, payload := payload }

/-- FRAME_RECEIVED of a frame on a free link is the event of that valid frame, for a frame of any kind: the bytes
before the last change the framer alone. A valid frame whose kind lies outside 01h..3Fh is discarded with count KIND, and
one within it arrives as a request frame (R169, R171). A frame whose CRC does not match is abandoned with count CRC (R168).
The run of bytes as one command is the model's choice (log 6). -/
def Obligations.FrameReceivedIsTheEventOfItsFrame : Prop :=
  (∀ (s : State) (kind tag : Byte) (payload : List Byte), s.Free → s.clu.overflow.first = none →
    payload.length ≤ 240 → s.clu.framer = .hunt → s.clu.breakSeen = false →
    exec (.frameReceived (linkFrame kind tag payload)) s =
      .next (s.event (State.takeFrame { kind := kind, tag := tag, payload := payload })) ∧
    (kind.toNat = 0 ∨ 0x40 ≤ kind.toNat →
      exec (.frameReceived (linkFrame kind tag payload)) s =
        .next { s with clu := { s.clu with counts := { s.clu.counts with kind := min (s.clu.counts.kind + 1) 65535 } } }) ∧
    ∀ (l : List Byte) (high low : Byte), l = [BitVec.ofNat 8 payload.length, kind, tag] ++ payload →
      high ++ low ≠ crc16 l →
      exec (.frameReceived (0xA5 :: l ++ [high, low])) s =
        .next { s with clu := { s.clu with counts := { s.clu.counts with crc := min (s.clu.counts.crc + 1) 65535 } } }) ∧
  ∀ (s : State) (f : Frame),
    (1 ≤ f.kind.toNat → f.kind.toNat ≤ 0x3F → s.takeFrame f = s.arrive f) ∧
    (f.kind.toNat = 0 ∨ 0x40 ≤ f.kind.toNat →
      s.takeFrame f =
        { s with clu := { s.clu with counts := { s.clu.counts with kind := min (s.clu.counts.kind + 1) 65535 } } })

/-- The check value of R168, and a frame of a request with its bytes written out (R167, R168). -/
def Obligations.CrcCheckValue : Prop :=
  crc16 [0x31, 0x32, 0x33, 0x34, 0x35, 0x36, 0x37, 0x38, 0x39] = 0x29B1#16 ∧
    (linkFrame 0x11 0x2C [0x32]).take 5 = [0xA5, 0x01, 0x11, 0x2C, 0x32] ∧
    Request.parse 0x11 [0x32] = .ok (.palletWithdraw 50)

/-! ## The cell link -/

/-- A framer outside HUNT is sent to HUNT by a gap and by a framing error, each with its count; in HUNT both are
without effect. In LENGTH a byte above 240 abandons the frame with count LENGTH (R167). Every row of the framer's table: a
byte in HUNT, LENGTH, KIND, TAG, PAYLOAD, CRC_HIGH and CRC_LOW (R167), where the CRC is judged: a mismatch is count CRC, a
match makes it a valid frame (R168). The command's byte, and a run of bytes as one command, are the model's choices
(log 6). -/
def Obligations.FramesAreAbandoned : Prop :=
  ∀ s : State, s.Calm → s.clu.overflow.first = none →
    exec .frameGap s =
      .next (if s.clu.framer = .hunt then s else
        { s with clu := { s.clu with
            framer := .hunt, counts := { s.clu.counts with gap := min (s.clu.counts.gap + 1) 65535 } } }) ∧
    exec .framingError s =
      .next (if s.clu.framer = .hunt then s else
        { s with clu := { s.clu with
            framer := .hunt, counts := { s.clu.counts with framing := min (s.clu.counts.framing + 1) 65535 } } }) ∧
    (∀ b : Byte, s.clu.breakSeen = false → s.clu.framer = .length → 240 < b.toNat →
      exec (.frameAbandonLength b) s =
        .next { s with clu := { s.clu with
          framer := .hunt, counts := { s.clu.counts with length := min (s.clu.counts.length + 1) 65535 } } } ∧
        exec (.frameReceived [b]) s = exec (.frameAbandonLength b) s) ∧
    ∀ (b : Byte) (fr : Framer → State), s.clu.breakSeen = false →
      (∀ x, fr x = { s with clu := { s.clu with framer := x } }) →
      (s.clu.framer = .hunt → exec (.frameReceived [b]) s = .next (fr (if b = 0xA5 then .length else .hunt))) ∧
      (s.clu.framer = .length → b.toNat ≤ 240 → exec (.frameReceived [b]) s = .next (fr (.kind b.toNat))) ∧
      (∀ n, s.clu.framer = .kind n → exec (.frameReceived [b]) s = .next (fr (.tag n b))) ∧
      (∀ n k, s.clu.framer = .tag n k →
        exec (.frameReceived [b]) s = .next (fr (if n = 0 then .crcHigh n k b [] else .payload n k b []))) ∧
      (∀ n k t got, s.clu.framer = .payload n k t got →
        exec (.frameReceived [b]) s =
          .next (fr (if got.length + 1 < n then .payload n k t (got ++ [b]) else .crcHigh n k t (got ++ [b])))) ∧
      (∀ n k t got, s.clu.framer = .crcHigh n k t got → exec (.frameReceived [b]) s = .next (fr (.crcLow n k t got b))) ∧
      (∀ n k t got high, s.clu.framer = .crcLow n k t got high →
        (crc16 ([BitVec.ofNat 8 n, k, t] ++ got) ≠ high ++ b →
          exec (.frameReceived [b]) s =
            .next { s with clu := { s.clu with
              framer := .hunt, counts := { s.clu.counts with crc := min (s.clu.counts.crc + 1) 65535 } } }) ∧
        (crc16 ([BitVec.ofNat 8 n, k, t] ++ got) = high ++ b →
          exec (.frameReceived [b]) s =
            .next (State.event (State.takeFrame { kind := k, tag := t, payload := got }) (fr .hunt))))

/-- A break holds the line once: in RUNNING outside WAIT it sets hold-pending, in WAIT the line goes to HELD with
reason BREAK, in the other line states it has no effect on the line; while it lasts a second one is without effect, and
its end lets a new one be seen (R50, R173). The framer in HUNT without a
count is the model's reading (log 33). -/
def Obligations.BreakIsAHold : Prop :=
  ∀ s : State, s.Calm → s.clu.overflow.first = none →
    (s.clu.breakSeen = true → exec .linkBreak s = .next s) ∧
    (s.clu.breakSeen = false → s.isq.line = .running → s.isq.phase ≠ some .wait →
      exec .linkBreak s =
        .next { s with isq := { s.isq with holdPending := true },
                       clu := { s.clu with breakSeen := true, framer := .hunt } }) ∧
    (s.clu.breakSeen = false → s.isq.line = .running → s.isq.phase = some .wait →
      exec .linkBreak s =
        .next ((State.report (.lineState .held none .break)
          { s with isq := { s.isq with line := .held, phase := none, holdPending := false, waitTimer := none },
                   clu := { s.clu with breakSeen := true, framer := .hunt } }).flushOverflow)) ∧
    (s.clu.breakSeen = false → s.isq.line ≠ .running →
      exec .linkBreak s = .next { s with clu := { s.clu with breakSeen := true, framer := .hunt } }) ∧
    exec .breakEnd s = .next { s with clu := { s.clu with breakSeen := false } }

/-- At the end of a frame the transmitter takes a waiting reply or BUSY before a report, the BUSY replies created
before the reply first; with nothing ready it is idle (R172, R174). -/
def Obligations.TransmitDoneChoosesTheNextFrame : Prop :=
  ∀ s : State, s.inReset = false → s.clu.requestQueue = [] → s.clu.overflow.first = none →
    (∀ r, s.clu.transmitting.isSome = true → s.clu.replySlot = some r → (s.clu.busyList = [] ∨ s.clu.busyAhead = 0) →
      exec .transmitDone s =
        .next { s with clu := { s.clu with replySlot := none, transmitting := some r.bytes } }) ∧
    (∀ b rest, s.clu.transmitting.isSome = true → s.clu.busyList = b :: rest →
      (s.clu.replySlot = none ∨ s.clu.busyAhead ≠ 0) →
      exec .transmitDone s =
        .next { s with clu := { s.clu with
          busyList := rest, busyAhead := s.clu.busyAhead - 1, transmitting := some b.bytes } }) ∧
    (∀ q rest, s.clu.transmitting.isSome = true → s.clu.replySlot = none → s.clu.busyList = [] →
      s.clu.reports = q :: rest →
      exec .transmitDone s = .next { s with clu := { s.clu with reports := rest, transmitting := some q.bytes } }) ∧
    (s.clu.transmitting.isSome = true → s.clu.replySlot = none → s.clu.busyList = [] → s.clu.reports = [] →
      exec .transmitDone s = .next { s with clu := { s.clu with transmitting := none } })

/-- The sending of the reply frees the slot, and the request at the head of the queue is executed in that event and
its reply takes the slot (R172). -/
def Obligations.FreedSlotExecutesTheNextRequest : Prop :=
  ∀ (s : State) (r : Reply) (q : Request) (tag : Byte) (rest : List Frame), s.inReset = false →
    s.clu.transmitting.isSome = true → s.clu.replySlot = some r → s.clu.busyList = [] → q.fits = true →
    s.clu.requestQueue = q.frame tag :: rest →
    ∃ u : State, u = { s with clu := { s.clu with replySlot := none, transmitting := some r.bytes, requestQueue := rest } } ∧
      exec .transmitDone s = .next ((q.perform u).2.answered q.kind tag (q.perform u).1)

/-- A request frame that arrives with a reply in the slot joins the queue, is answered BUSY, or is dropped, by the room
in the queue and the BUSY list (R171). -/
def Obligations.ArrivingRequestQueuesOrIsBusy : Prop :=
  ∀ (s : State) (f : Frame),
    (s.clu.requestQueue.length < 4 →
      s.arrive f = { s with clu := { s.clu with requestQueue := s.clu.requestQueue ++ [f] } }) ∧
    (4 ≤ s.clu.requestQueue.length → s.clu.busyList.length < 4 →
      s.arrive f =
        { s with clu := { s.clu with
          busyList := s.clu.busyList ++ [{ kind := f.kind, tag := f.tag }]
          counts := { s.clu.counts with busy := min (s.clu.counts.busy + 1) 65535 } } }) ∧
    (4 ≤ s.clu.requestQueue.length → 4 ≤ s.clu.busyList.length →
      s.arrive f =
        { s with clu := { s.clu with counts := { s.clu.counts with dropped := min (s.clu.counts.dropped + 1) 65535 } } })

/-- A report that the mask lets through takes the table of R176; one that it does not is discarded. ALARM always passes,
EVENT and TRACE by their flags. A lost report is counted by its class, the first loss with its time. OVERFLOW joins the
queue once the record is pending and there is room, and clears the record (R175, R176). The kind and the class of every
report (Table 10-6, R113). A report frame: its kind, tag 0, the common header of the class, the time base count and the
index count, then the report's own fields (R175); the fields of OVERFLOW (R176). -/
def Obligations.ReportsAreTakenByTheTable : Prop :=
  (∀ (c : Clu) (q : QueuedReport),
    (c.passes q.report.cls = false → c.take q = c) ∧
    (c.passes q.report.cls = true → c.reports.length < 32 → c.take q = { c with reports := c.reports ++ [q] }) ∧
    (c.passes q.report.cls = true → 32 ≤ c.reports.length →
      (q.report.cls ≠ .alarm ∨ ∀ r ∈ c.reports, r.report.cls = .alarm) →
      c.take q = { c with overflow := c.overflow.lose q.report.cls q.time }) ∧
    (∀ (a b : List QueuedReport) (r : QueuedReport), 32 ≤ c.reports.length → q.report.cls = .alarm →
      c.reports = a ++ r :: b → (∀ x ∈ a, x.report.cls = .alarm) → r.report.cls ≠ .alarm →
      c.take q = { c with reports := a ++ b ++ [q], overflow := c.overflow.lose r.report.cls q.time }) ∧
    (c.passes .alarm = true ∧ c.passes .event = c.eventOn ∧ c.passes .trace = c.traceOn) ∧
    (∀ (o : Overflow) (time : Nat),
      o.lose .alarm time = { o with alarms := min (o.alarms + 1) 65535, first := some (o.first.getD time) } ∧
      o.lose .event time = { o with events := min (o.events + 1) 65535, first := some (o.first.getD time) } ∧
      o.lose .trace time = { o with traces := min (o.traces + 1) 65535, first := some (o.first.getD time) }) ∧
    ∀ s : State,
      (s.clu.overflow.first = none ∨ 32 ≤ s.clu.reports.length → s.flushOverflow = s) ∧
      ∀ time : Nat, s.clu.overflow.first = some time → s.clu.reports.length < 32 →
        s.flushOverflow =
          { s with clu := { s.clu with
            reports := s.clu.reports ++
              [{ report := .overflow s.clu.overflow.alarms s.clu.overflow.events s.clu.overflow.traces time
                 time := s.timeBase, indexCount := s.prg.indexCount }]
            overflow := { alarms := 0, events := 0, traces := 0, first := none } } }) ∧
  (∀ r : Report, (r.kind, r.cls) =
      match r with
        | .reset .. => (0x80, .alarm) | .overflow .. => (0x81, .alarm) | .lineState .. => (0x82, .event)
        | .phase .. => (0x83, .trace) | .waiting .. => (0x84, .event) | .indexDone .. => (0x85, .event)
        | .seatLost .. => (0x86, .alarm) | .halted .. => (0x87, .alarm) | .haltAdded .. => (0x88, .alarm)
        | .haltSettled .. => (0x89, .event) | .recovered .. => (0x8A, .event) | .palletDischarged .. => (0x8B, .event)
        | .logDiscarded .. => (0x8C, .trace) | .dispositionChanged .. => (0x8D, .event)
        | .blockCarried .. => (0x8E, .event) | .phantomLoad .. => (0x8F, .alarm) | .phantomUnload .. => (0x8F, .alarm)
        | .missingBlock .. => (0x90, .alarm) | .blockAgreed .. => (0x91, .event) | .blockOut .. => (0x92, .event)
        | .operationStart .. => (0x93, .trace) | .operationEnd .. => (0x94, .trace)
        | .unexpectedDone .. => (0x95, .trace) | .late .. => (0x96, .event) | .stationAbandoning .. => (0x97, .event)
        | .stationFault .. => (0x98, .alarm) | .stationCleared .. => (0x99, .event)
        | .stationService .. => (0x9A, .event) | .liftUnknown .. => (0x9B, .alarm)
        | .driveState _ .lost _ _ => (0x9C, .alarm) | .driveState _ .fault _ _ => (0x9C, .alarm)
        | .driveState .. => (0x9C, .event) | .strokePlan .. => (0x9D, .trace) | .strokeEnd .. => (0x9E, .trace)
        | .bankSwapped .. => (0x9F, .event) | .camMark .. => (0xA0, .trace) | .camCheckFailed .. => (0xA1, .alarm)
        | .camTrial .. => (0xA2, .event) | .trialDone .. => (0xA3, .event) | .loadState .. => (0xA4, .trace)
        | .feedStart .. => (0xA5, .trace) | .feedMatched .. => (0xA6, .trace) | .feedNoread .. => (0xA7, .event)
        | .feedReordered .. => (0xA8, .event) | .feedForeign .. => (0xA9, .alarm) | .feedConflict .. => (0xAA, .alarm)
        | .feedFault .. => (0xAB, .alarm) | .foreignRemoved .. => (0xAC, .event)
        | .loadWaitExpired .. => (0xAD, .event) | .feedAborted .. => (0xAE, .event) | .nodeLost .. => (0xAF, .alarm)
        | .nodeReturned .. => (0xB0, .event)) ∧
  ∀ (r : Report) (time k : Nat) (byte : Nat → Byte) (word : Nat → List Byte), (∀ m, byte m = BitVec.ofNat 8 m) →
    (∀ m, word m = [byte (m / 16777216), byte (m / 65536), byte (m / 256), byte m]) →
    QueuedReport.bytes { report := r, time := time, indexCount := k } =
      linkFrame r.kind 0 ((match r.cls with | .alarm => [0] | .event => [1] | .trace => [2]) ++ word time ++ word k ++ r.fields) ∧
    ∀ a e t first : Nat, Report.fields (.overflow a e t first) =
      [byte (a / 256), byte a, byte (e / 256), byte e, byte (t / 256), byte t] ++ word first

/-- IDENT, ECHO and REPORT MASK, and a kind of 21h..3Fh, which is refused with UNKNOWN_KIND (R169, R175, R177). A request
as one command is the model's choice (log 5). -/
def Obligations.LinkRequestsAnswer : Prop :=
  ∀ (s : State) (tag : Byte), s.Free →
    exec (.ident tag) s =
      .next (s.answered 0x01 tag (.ok ([0x4B, 0x4F, 0x4C, 0x56, 0x41, 0x4E, 0x32, 0x34, 1] ++ u8 s.clu.rate ++
        u16 s.clu.counts.gap ++ u16 s.clu.counts.length ++ u16 s.clu.counts.crc ++ u16 s.clu.counts.framing ++
        u16 s.clu.counts.kind ++ u16 s.clu.counts.busy ++ u16 s.clu.counts.dropped))) ∧
    (∀ l : List Byte, l.length ≤ 239 → exec (.echo tag l) s = .next (s.answered 0x1F tag (.ok l))) ∧
    (∀ e t : Bool,
      exec (.reportMask tag e t) s =
        .next (State.answered 0x1E tag (.ok [if e then 1 else 0, if t then 1 else 0])
          { s with clu := { s.clu with eventOn := e, traceOn := t } })) ∧
    ∀ (kind : Byte) (l : List Byte), 0x21 ≤ kind.toNat → kind.toNat ≤ 0x3F →
      exec (.unknownRequest tag kind l) s = .next (s.answered kind tag (.refused .unknownKind []))

/-! ## Reset (R25, R68, R94, R111, R126, R178, R182) -/

/-- Power-on reset puts every block in its reset condition with the rate of the strap and RESET queued. RST low does so
with no report and no frame, and while it is low no command but power-on reset, or RST low once more, is taken (R182).
The rate carried by the command and the part that takes nothing are the model's reading (logs 3, 4). The reset values
that the manual does not state, among them the break seen flag clear, the ring's scan sequence 0, the start time of an
index 0, the shift-taken flag clear, the peak following error 0 and the time spent settling 0, are the model's choice
(log 42). -/
def Obligations.ResetPutsEveryBlockInItsCondition : Prop :=
  ∀ s : State,
    (∀ r1 r0 : Bool, ∃ t, exec (.powerOnReset r1 r0) s = .next t ∧ t.InResetCondition ∧ t.inReset = false ∧
      t.pending = s.pending ∧ t.clu.rate = 2 * r1.toNat + r0.toNat ∧
      t.clu.reports = [{ report := .reset .powerOn (2 * r1.toNat + r0.toNat), time := 0, indexCount := 0 }]) ∧
    (∃ t, exec .rstAssert s = .next t ∧ t.InResetCondition ∧ t.inReset = true ∧ t.pending = s.pending ∧
      t.clu.rate = s.clu.rate ∧ t.clu.reports = []) ∧
    (s.inReset = true → ∀ c : Instr, (∀ r1 r0 : Bool, c ≠ .powerOnReset r1 r0) → c ≠ .rstAssert → exec c s = .next s)

/-! ## Queries (R24, R67, R92) -/

/-- QUERY STATUS is accepted in every line state, changes no state but the link's, and carries the fields of R67, with
the course, the seat-edit flag and the halt count of R159, the banks' counts and flags of R129, the auxiliary outputs
and the enable. The layout is the model's choice (log 14), as are the code of the halt phase in the halt record (log 55)
and which detail of readiness conditions 2 and 3 is given (log 25). -/
def Obligations.QueryStatusCarriesTheStatus : Prop :=
  ∀ (s : State) (tag : Byte), s.Free →
    exec (.queryStatus tag) s =
      .next (s.answered 0x02 tag (.ok (
        u8 s.isq.line.code ++ opt (fun p => u8 p.code) s.isq.phase ++
        (u8 s.isq.course.code ++ flag s.isq.seatEdit ++ u8 s.isq.haltCount) ++ flag s.isq.holdPending ++
        (flag s.isq.released ++ flag s.isq.withdrawn ++ flag s.isq.lifted) ++ flag s.feedPermit ++
        flag s.cam.trial.isSome ++
        opt (listOf Condition.bytes) (if s.inWait then some s.falseConditions else none) ++
        opt (fun r : HaltRecord => r.bytes ++ flag (s.isq.line == .halted)) s.isq.haltRecord ++
        (u8 s.cam.bankA.state.code ++ u8 s.cam.bankA.points.length ++ flag s.cam.bankA.underTrial) ++
        (u8 s.cam.bankB.state.code ++ u8 s.cam.bankB.points.length ++ flag s.cam.bankB.underTrial) ++
        s.cam.aux.flatMap flag ++ i32 s.mgn.commanded ++ opt i32 s.mgn.lastFeedback ++ u8 s.sct.liftState.code ++
        (u8 s.mgn.drive.code ++ flag s.mgn.enable))))

/-- QUERY STATION: BAD_FIELD outside 1..N, or outside 1..24 in UNCONFIGURED (N absent); otherwise the reply carries the
unit, and no state changes but the link's (R92). The layout is the model's choice (log 14); the node-lost field of a
PENDING node or of a station without a node (log 53) and the levels before a first image (log 10) are its reading. -/
def Obligations.QueryStationCarriesTheUnit : Prop :=
  ∀ (s : State) (tag k : Byte), s.Free →
    (¬(1 ≤ k.toNat ∧ k.toNat ≤ s.isq.stations.getD 24) →
      exec (.queryStation tag k) s = .next (s.answered 0x03 tag (.refused .badField []))) ∧
    (1 ≤ k.toNat ∧ k.toNat ≤ s.isq.stations.getD 24 →
      exec (.queryStation tag k) s =
        .next (s.answered 0x03 tag (.ok (
          (s.unit k.toNat).config.bytes ++ (u8 (s.unit k.toNat).state.code ++ flag (s.unit k.toNat).inService) ++
          flag (s.unit k.toNat).clampWatch ++
          (flag (s.image k.toNat).home ++ flag (s.image k.toNat).done ++ flag (s.image k.toNat).pass ++
            flag (s.image k.toNat).flt ++ flag (s.nodeLost k.toNat)) ++
          (flag (s.unit k.toNat).start ++ u8 (s.unit k.toNat).programOut) ++
          opt Operation.bytes (s.unit k.toNat).operation ++ opt u32 (s.unit k.toNat).remaining ++
          opt FaultRecord.bytes (s.unit k.toNat).fault))))

/-- QUERY PALLET, QUERY MAP and QUERY QUEUE read the register and change no state but the link's (R24). The location comes
from the places (log 31). -/
def Obligations.RegisterQueriesCarryTheRegister : Prop :=
  ∀ (s : State) (tag : Byte), s.Free →
    (∀ id : Byte, ¬(1 ≤ id.toNat ∧ id.toNat ≤ 250) →
      exec (.queryPallet tag id) s = .next (s.answered 0x04 tag (.refused .badField []))) ∧
    (∀ id : Byte, 1 ≤ id.toNat → id.toNat ≤ 250 → s.record id.toNat = none →
      exec (.queryPallet tag id) s = .next (s.answered 0x04 tag (.refused .unknownPallet []))) ∧
    (∀ (id : Byte) (r : Pallet), 1 ≤ id.toNat → id.toNat ≤ 250 → s.record id.toNat = some r →
      exec (.queryPallet tag id) s =
        .next (s.answered 0x04 tag (.ok (u8 r.id ++ (s.location r.id).bytes ++ u32 r.cycles ++ flag r.withdraw ++
          flag r.unverified ++ flag r.transit ++ opt Block.bytes r.block)))) ∧
    exec (.queryMap tag) s =
      .next (s.answered 0x05 tag (.ok (opt u8 s.isq.stations ++ u32 s.prg.indexCount ++ flag s.prg.openIndex ++
        listOf s.slotContent s.prg.map))) ∧
    exec (.queryQueue tag) s =
      .next (s.answered 0x06 tag (.ok (u8 s.prg.capacity ++ u8 s.prg.queue.length ++ u8 s.reserved ++
        listOf u8 s.prg.queue ++ listOf u8 s.prg.offline)))

/-! ## Configuration (R33, R46, R70, R71, R130 to R132) -/

/-- SET LINE. The first one takes the line from UNCONFIGURED to HELD with N, C, the inspection limit and every setting
written, each clamped setting named in the reply (R7, R46, R98, R116, R142). In HELD with the bar home and no trial it
leaves the line HELD; with another N the slots, the routes and the units up to N stay, those above are emptied, zeroed and
reset, and the scan list keeps its known nodes (R7, R32, R72, R179). Its checks in their order (Table 10-3). That a node
whose kind changes with N keeps its record, image included, is the model's choice (log 11), where R179 keeps the known
nodes. The values the settings take, the ranges of the structural fields, the clamped fields. The whole effect of an
accepted SET LINE in both line states, N given or absent: with the top-up timer of an open held interval (R107), the
commanded position within the new S (R115), the unload watch judged where N changes (R39), a waiting pallet declared empty
by the change to RUN_EMPTY (R150), the clamps of empty fixtures opened (R106), and the feed judged last (R143; its place
is the model's choice, log 7). -/
def Obligations.FirstSetLineConfiguresTheLine : Prop :=
  (∀ (s : State) (tag : Byte) (f : LineFields) (n : Byte), s.Free → s.isq.line = .unconfigured → f.n = some n →
    s.structural f = true → s.prg.map = [] → s.prg.queue = [] → s.unitBlocks n.toNat = false →
    (f.stroke.isSome = true → s.pointAbove (given f.stroke 0) = false) →
    ∃ t, exec (.setLine tag f) s = .next t ∧ t.isq.line = .held ∧ t.isq.stations = some n.toNat ∧
      t.isq.waitDelay = max 1 (min (given f.waitDelay s.isq.waitDelay) 600) ∧
      t.prg.map = List.replicate (n.toNat + 2) .empty ∧ t.prg.capacity = given f.c s.prg.capacity ∧
      t.prg.inspectionLimit = given f.inspectionLimit s.prg.inspectionLimit ∧
      t.mgn.settings = newMotion f s.mgn.settings ∧ t.sct.settings = newSeat f s.sct.settings ∧
      t.fdu.settings = newFeed f s.fdu.settings ∧
      (t.clu.replySlot.map Reply.answer) = some (.ok (listOf u8 (s.clampedFields f))) ∧
      t.prg.records = s.prg.records ∧ t.prg.indexCount = s.prg.indexCount ∧ t.cam = s.cam ∧ t.timeBase = s.timeBase) ∧
  (∀ (s : State) (tag : Byte) (f : LineFields) (n : Byte), s.Free → s.isq.line = .held → s.barHome = true →
    s.cam.trial = none → f.n = some n → s.structural f = true → s.shrinkBlocked n.toNat = false →
    s.prg.queue.length ≤ given f.c s.prg.capacity → s.unitBlocks n.toNat = false →
    (f.stroke.isSome = true → s.pointAbove (given f.stroke 0) = false) →
    ∃ t, exec (.setLine tag f) s = .next t ∧ t.isq.line = .held ∧ t.isq.stations = some n.toNat ∧
      t.isq.waitDelay = max 1 (min (given f.waitDelay s.isq.waitDelay) 600) ∧
      t.prg.map = (List.range (n.toNat + 2)).map s.slot ∧ t.prg.capacity = given f.c s.prg.capacity ∧
      t.prg.inspectionLimit = given f.inspectionLimit s.prg.inspectionLimit ∧ t.prg.records = s.prg.records ∧
      t.prg.queue = s.prg.queue ∧ t.prg.offline = s.prg.offline ∧ t.prg.indexCount = s.prg.indexCount ∧
      (∀ v k, 1 ≤ k → t.program v k = if n.toNat < s.n ∧ n.toNat < k then 0 else s.program v k) ∧
      (∀ k, 1 ≤ k → k ≤ n.toNat → t.unit k = s.unit k) ∧
      (∀ k, n.toNat < k → t.unit k =
        { config := { kind := .idle, group := none, faultMode := .edge, policy := .hold, p1 := 600, p2 := 300
                      finalGauge := false }
          state := .vacant, inService := true, clampWatch := false, operation := none, fault := none, start := false
          restartWait := false, stage1 := none, stage2 := none }) ∧
      t.rgc.nodes.map Node.addr = List.range (n.toNat + 2) ++ [30] ∧
      (∀ a, a ≤ n.toNat + 1 ∨ a = 30 → t.node a =
        some ((s.node a).getD { addr := a, state := .pending, image := none, missed := 0, scansMissed := 0 })) ∧
      t.sct.locators.length = n.toNat + 2 ∧ t.sct.clamps.length = n.toNat ∧
      t.mgn.settings = newMotion f s.mgn.settings ∧ t.sct.settings = newSeat f s.sct.settings ∧
      t.fdu.settings = newFeed f s.fdu.settings ∧
      (t.clu.replySlot.map Reply.answer) = some (.ok (listOf u8 (s.clampedFields f))) ∧ t.cam = s.cam) ∧
  (∀ (s : State) (tag : Byte) (f : LineFields), s.Free →
    (s.isq.line = .running ∨ s.isq.line = .halted →
      exec (.setLine tag f) s = .next (s.answered 0x07 tag (.refused .wrongState []))) ∧
    (s.isq.line = .held → (s.barHome = false ∨ s.cam.trial ≠ none) →
      exec (.setLine tag f) s = .next (s.answered 0x07 tag (.refused .notHome []))) ∧
    (s.isq.line = .unconfigured ∨ (s.isq.line = .held ∧ s.barHome = true ∧ s.cam.trial = none) →
      (s.structural f = false → exec (.setLine tag f) s = .next (s.answered 0x07 tag (.refused .badField []))) ∧
      (s.structural f = true →
        (s.shrinkBlocked (given f.n s.n) = true ∨ given f.c s.prg.capacity < s.prg.queue.length →
          exec (.setLine tag f) s = .next (s.answered 0x07 tag (.refused .badField []))) ∧
        (s.shrinkBlocked (given f.n s.n) = false → s.prg.queue.length ≤ given f.c s.prg.capacity →
          (s.unitBlocks (given f.n s.n) = true →
            exec (.setLine tag f) s = .next (s.answered 0x07 tag (.refused .wrongState []))) ∧
          (s.unitBlocks (given f.n s.n) = false → f.stroke.isSome = true → s.pointAbove (given f.stroke 0) = true →
            exec (.setLine tag f) s = .next (s.answered 0x07 tag (.refused .camRange []))))))) ∧
  (∀ (s : State) (f : LineFields),
    (s.structural f = true ↔
      (∀ v, f.n = some v → 2 ≤ v.toNat ∧ v.toNat ≤ 24) ∧ (∀ v, f.c = some v → 1 ≤ v.toNat ∧ v.toNat ≤ 32) ∧
      (∀ v, f.inspectionLimit = some v → v.toNat ≤ 1000000) ∧
      (∀ v, f.stroke = some v → 100000 ≤ v.toNat ∧ v.toNat ≤ 1200000) ∧
      (∀ v, f.loadWaitPolicy = some v → v.toNat ≤ 1) ∧ (f.n ≠ none ∨ s.isq.stations ≠ none)) ∧
    (∀ n, s.shrinkBlocked n = true ↔ ∃ p, n + 1 < p ∧ s.slot p ≠ .empty) ∧
    (∀ n, s.unitBlocks n = true ↔ ∃ k, n < k ∧ (s.unit k).state ≠ .vacant ∧ (s.unit k).state ≠ .complete) ∧
    (∀ v, s.pointAbove v = true ↔
      ∃ id, (s.cam.bank id).state ≠ .open_ ∧ ∃ p ∈ (s.cam.bank id).points, v < p.position)) ∧
  (∀ (f : LineFields) (m : MotionSettings),
    (newMotion f m).stroke = given f.stroke m.stroke ∧
    (newMotion f m).velocity = max 50 (min (given f.velocity m.velocity) 2000) ∧
    (newMotion f m).acceleration =
      min (max 1 (min (given f.acceleration m.acceleration) 100)) (newMotion f m).velocity ∧
    (newMotion f m).quickStop = max (max 1 (min (given f.quickStop m.quickStop) 200)) (newMotion f m).acceleration ∧
    (newMotion f m).errorLimit = max 10 (min (given f.errorLimit m.errorLimit) 20000) ∧
    (newMotion f m).persistence = max 1 (min (given f.errorPersistence m.persistence) 50) ∧
    (newMotion f m).band = max 5 (min (given f.band m.band) 500) ∧
    (newMotion f m).settle = max 10 (min (given f.settleTimeout m.settle) 2000)) ∧
  (∀ (f : LineFields) (x : SeatSettings) (d : FeedSettings),
    newSeat f x =
      { pulse := max 20 (min (given f.pulseLength x.pulse) 500)
        stagger := min (given f.clampStagger x.stagger) 2000
        release := max 100 (min (given f.releaseTimeout x.release) 10000)
        locate := max 100 (min (given f.locateTimeout x.locate) 10000)
        clamp := max 100 (min (given f.clampTimeout x.clamp) 10000)
        lift := max 100 (min (given f.liftTimeout x.lift) 10000)
        topUp := if given f.topUpInterval x.topUp = 0 then 0 else max 5 (min (given f.topUpInterval x.topUp) 600) } ∧
    newFeed f d =
      { feed := max 1 (min (given f.feedTimeout d.feed) 60), read := max 100 (min (given f.readTimeout d.read) 5000)
        loadWait := max 1 (min (given f.loadWaitTimeout d.loadWait) 600)
        policy := if f.loadWaitPolicy = none then d.policy else if f.loadWaitPolicy = some 0 then .wait else .runEmpty }) ∧
  (∀ (s : State) (f : LineFields) (m m' : MotionSettings) (x x' : SeatSettings) (d d' : FeedSettings),
    m = s.mgn.settings → m' = newMotion f m → x = s.sct.settings → x' = newSeat f x → d = s.fdu.settings →
    d' = newFeed f d →
    s.clampedFields f =
      ([(5, given f.velocity m.velocity, m'.velocity), (6, given f.acceleration m.acceleration, m'.acceleration),
        (7, given f.quickStop m.quickStop, m'.quickStop), (8, given f.errorLimit m.errorLimit, m'.errorLimit),
        (9, given f.errorPersistence m.persistence, m'.persistence), (10, given f.band m.band, m'.band),
        (11, given f.settleTimeout m.settle, m'.settle), (12, given f.pulseLength x.pulse, x'.pulse),
        (13, given f.clampStagger x.stagger, x'.stagger), (14, given f.releaseTimeout x.release, x'.release),
        (15, given f.locateTimeout x.locate, x'.locate), (16, given f.clampTimeout x.clamp, x'.clamp),
        (17, given f.liftTimeout x.lift, x'.lift), (18, given f.topUpInterval x.topUp, x'.topUp),
        (19, given f.waitDelay s.isq.waitDelay, max 1 (min (given f.waitDelay s.isq.waitDelay) 600)),
        (20, given f.feedTimeout d.feed, d'.feed), (21, given f.readTimeout d.read, d'.read),
        (22, given f.loadWaitTimeout d.loadWait, d'.loadWait)] : List (Nat × Nat × Nat)).filterMap
        fun e => if e.2.1 = e.2.2 then none else some e.1) ∧
  ∀ (s w x y : State) (tag : Byte) (f : LineFields) (n : Nat), s.Free → n = given f.n s.n →
    s.isq.line = .unconfigured ∨ (s.isq.line = .held ∧ s.barHome = true ∧ s.cam.trial = none) → s.structural f = true →
    s.shrinkBlocked n = false → s.prg.queue.length ≤ given f.c s.prg.capacity → s.unitBlocks n = false →
    (f.stroke.isSome = true → s.pointAbove (given f.stroke 0) = false) →
    w = { s with
      isq := { s.isq with stations := some n, waitDelay := max 1 (min (given f.waitDelay s.isq.waitDelay) 600) }
      prg := { s.prg with
        map := (List.range (n + 2)).map s.slot, capacity := given f.c s.prg.capacity
        inspectionLimit := given f.inspectionLimit s.prg.inspectionLimit }
      rtb := if n < s.n then s.rtb.map (fun r => r.take n ++ List.replicate (24 - n) 0) else s.rtb
      stu := (List.range 24).map fun i => if i < n then s.unit (i + 1) else
        { config := { kind := .idle, group := none, faultMode := .edge, policy := .hold, p1 := 600, p2 := 300
                      finalGauge := false }
          state := .vacant, inService := true, clampWatch := false, operation := none, fault := none, start := false
          restartWait := false, stage1 := none, stage2 := none }
      sct := { s.sct with
        locators := (List.range (n + 2)).map fun i =>
          (s.sct.locators[i]?).getD { pulse := none, commanded := none, pending := none }
        clamps := (List.range n).map fun i =>
          (s.sct.clamps[i]?).getD { pulse := none, commanded := none, pending := none }
        settings := newSeat f s.sct.settings
        topUpTimer :=
          if s.sct.held = false then s.sct.topUpTimer
          else if (newSeat f s.sct.settings).topUp = 0 then none
          else if s.sct.settings.topUp = 0 then some ((newSeat f s.sct.settings).topUp * 1000)
          else s.sct.topUpTimer }
      mgn := { s.mgn with
        settings := newMotion f s.mgn.settings
        commanded := max 0 (min s.mgn.commanded (newMotion f s.mgn.settings).stroke) }
      fdu := { s.fdu with settings := newFeed f s.fdu.settings }
      rgc := { s.rgc with
        nodes := (List.range (n + 2) ++ [30]).map fun a =>
          (s.node a).getD { addr := a, state := .pending, image := none, missed := 0, scansMissed := 0 } } } →
    x = (if s.isq.line = .unconfigured then
        State.report (.lineState .held none .configured) { w with isq := { w.isq with line := .held } }
      else w) →
    y = (if s.isq.stations = some n then x else x.judgeWatch) →
    exec (.setLine tag f) s =
      .next (State.answered 0x07 tag (.ok (listOf u8 (s.clampedFields f)))
        (State.judgeFeed (State.topUpReload (State.releaseEmptyFixtures
          (if s.fdu.settings.policy = .wait ∧ (newFeed f s.fdu.settings).policy = .runEmpty ∧
              s.fdu.state = .awaitingBlock ∧ s.fdu.loadWait = none then
            y.toLoad .ready
          else y)))))

/-- SET STATION. The checks of R70 in their order. Accepted in UNCONFIGURED or HELD, it writes the whole record in one
write, P1 and P2 raised to 1 (R69 to R71); that the raised ones alone are listed is the model's choice (log 64). A change
to IDLE takes a COMPLETE unit to VACANT and clears its clamp watch, its clamp channel becomes UNSET and a pulse in flight
runs on (R71, R86, R95); that a pulse waiting there is cancelled is the model's choice (log 44). A change from IDLE in
HELD with a pallet clamps it (R106); a change to LEVEL with FLT on faults a unit that is not FAULTED, but for an IDLE one
(R71, R84). SCT then opens the clamps of empty fixtures (R106). The record the fields name, by the codes of Table 4-1,
when they lie in their values and agree (R70). -/
def Obligations.SetStationWritesTheRecord : Prop :=
  (∀ (s : State) (tag : Byte) (f : StationFields) (c : StationConfig), s.Free → s.isq.line = .unconfigured →
    s.isq.stations = none → 1 ≤ f.station.toNat → f.station.toNat ≤ 24 → stationRecord f = some c →
    c.kind ≠ .idle → c.faultMode = .edge → (s.unit f.station.toNat).state = .vacant →
    (c.finalGauge = true → s.otherFinalGauge f.station.toNat = false) →
    exec (.setStation tag f) s =
      .next ((s.modUnit f.station.toNat fun u => { u with config := c }).answered 0x08 tag
        (.ok (listOf u8 ((if f.p1 = 0 then [6] else []) ++ (if f.p2 = 0 then [7] else [])))))) ∧
  (∀ (f : StationFields) (c : StationConfig), stationRecord f = some c ↔
    ((f.kind = 0 ∧ c.kind = .machine) ∨ (f.kind = 1 ∧ c.kind = .gauge) ∨ (f.kind = 2 ∧ c.kind = .idle)) ∧
    ((f.group = none ∧ c.group = none) ∨ (f.group = some 0 ∧ c.group = some .a) ∨
      (f.group = some 1 ∧ c.group = some .b)) ∧
    ((f.faultMode = 0 ∧ c.faultMode = .edge) ∨ (f.faultMode = 1 ∧ c.faultMode = .level)) ∧
    ((f.policy = 0 ∧ c.policy = .hold) ∨ (f.policy = 1 ∧ c.policy = .abandon)) ∧
    c.p1 = max 1 f.p1.toNat ∧ c.p2 = max 1 f.p2.toNat ∧ c.finalGauge = f.finalGauge ∧
    (c.kind = .idle ↔ c.group = none) ∧ (c.finalGauge = true → c.kind = .gauge)) ∧
  (∀ (s : State) (tag : Byte) (f : StationFields) (k : Nat) (u : StationUnit) (refused : Reason → Prop)
      (inHand : Prop) (changes toIdle : StationConfig → Prop), s.Free → k = f.station.toNat → u = s.unit k →
    (∀ why, refused why ↔ exec (.setStation tag f) s = .next (s.answered 0x08 tag (.refused why []))) →
    (inHand ↔ u.state = .working ∨ u.state = .late ∨ u.state = .abandoning ∨
      (u.state = .faulted ∧ ∃ r, u.fault = some r ∧ (r.resume = .operation ∨ r.resume = .abandon))) →
    (∀ c, changes c ↔ ¬(c.kind = u.config.kind ∧ c.group = u.config.group ∧ c.faultMode = u.config.faultMode ∧
      c.policy = u.config.policy ∧ c.finalGauge = u.config.finalGauge)) →
    (∀ c, toIdle c ↔ c.kind = .idle ∧ u.config.kind ≠ .idle) →
    (s.isq.line = .running ∨ s.isq.line = .halted → refused .wrongState) ∧
    (s.isq.line = .unconfigured ∨ s.isq.line = .held →
      (¬(1 ≤ k ∧ k ≤ s.isq.stations.getD 24) → refused .badField) ∧
      (1 ≤ k → k ≤ s.isq.stations.getD 24 →
        (stationRecord f = none → refused .badField) ∧
        (∀ c, stationRecord f = some c →
          (∀ j, c.finalGauge = true → 1 ≤ j → j ≤ 24 → j ≠ k → (s.unit j).config.finalGauge = true →
            refused .badField) ∧
          ((c.finalGauge = true → ∀ j, 1 ≤ j → j ≤ 24 → j ≠ k → (s.unit j).config.finalGauge = false) →
            ((inHand ∧ changes c) ∨ (toIdle c ∧ (u.state = .faulted ∨ s.palletAt k ≠ none)) → refused .wrongState) ∧
            (¬inHand → toIdle c → u.state ≠ .faulted → s.palletAt k = none → ∀ v, v < 8 → s.program v k ≠ 0 →
              refused .routeConflict) ∧
            (¬(inHand ∧ changes c) → (toIdle c → u.state ≠ .faulted ∧ s.palletAt k = none ∧ ∀ v, v < 8 → s.program v k = 0) →
              ∀ (t : State) (done : State → Prop),
                (∀ v : State, done v ↔ exec (.setStation tag f) s =
                  .next (v.releaseEmptyFixtures.answered 0x08 tag
                    (.ok (listOf u8 ((if f.p1 = 0 then [6] else []) ++ (if f.p2 = 0 then [7] else [])))))) →
                (toIdle c →
                  t = (s.modUnit k fun w => { w with
                    config := c, clampWatch := false
                    state := if w.state = .complete then .vacant else w.state }) →
                  done (State.topUpReload (t.modChannel (.clamp k) fun ch =>
                    { ch with commanded := none, pending := none }))) ∧
                (¬toIdle c →
                  t = (if u.config.kind = .idle ∧ c.kind ≠ .idle ∧ s.isq.line = .held ∧ s.palletAt k ≠ none then
                      (s.modUnit k fun w => { w with config := c }).requestPulse (.clamp k) .engage .placedPallet
                    else s.modUnit k fun w => { w with config := c }) →
                  done (if u.config.faultMode ≠ .level ∧ (t.unit k).config.faultMode = .level ∧
                      (t.unit k).config.kind ≠ .idle ∧ (s.image k).flt = true ∧ u.state ≠ .faulted then
                    t.unitFault k .fltInput
                  else t)))))))) ∧
  ∀ (s : State) (l : List Nat),
    l = (List.range s.n).map (· + 1) →
    s.releaseEmptyFixtures =
      s.requestPulses ((l.filter fun k => (s.unit k).config.kind ≠ .idle ∧ s.slot k = .empty ∧
        s.commandedSide (.clamp k) ≠ some .disengage).map .clamp) .disengage .emptyFixture

/-- SET ROUTE of a list that fits a frame: WRONG_STATE in UNCONFIGURED; BAD_FIELD for a route outside 0..7, a list whose
length is not N or a program above 250; ROUTE_CONFLICT for a nonzero program at a station whose kind is IDLE; otherwise
the route's entries for 1..N take the programs and those above N become 0, in one write (R33). A list that makes the
payload longer than 240 bytes is BAD_LENGTH: R170 says so of CAM WRITE, and that it holds of SET ROUTE is the model's
reading (log 50). -/
def Obligations.SetRouteReplacesTheRoute : Prop :=
  ∀ (s : State) (tag route : Byte) (l : List Byte), s.Free →
    (238 < l.length → exec (.setRoute tag route l) s = .next (s.answered 0x09 tag (.refused .badLength []))) ∧
    (l.length ≤ 238 →
      (s.isq.line = .unconfigured →
        exec (.setRoute tag route l) s = .next (s.answered 0x09 tag (.refused .wrongState []))) ∧
      (s.isq.line ≠ .unconfigured → (7 < route.toNat ∨ l.length ≠ s.n ∨ ∃ b ∈ l, 250 < b.toNat) →
        exec (.setRoute tag route l) s = .next (s.answered 0x09 tag (.refused .badField []))) ∧
      (∀ (i : Nat) (b : Byte), s.isq.line ≠ .unconfigured → route.toNat ≤ 7 → l.length = s.n →
        (∀ x ∈ l, x.toNat ≤ 250) → l[i]? = some b → b ≠ 0 → (s.unit (i + 1)).config.kind = .idle →
        exec (.setRoute tag route l) s = .next (s.answered 0x09 tag (.refused .routeConflict []))) ∧
      (s.isq.line ≠ .unconfigured → route.toNat ≤ 7 → l.length = s.n → (∀ x ∈ l, x.toNat ≤ 250) →
        (∀ (i : Nat) (b : Byte), l[i]? = some b → b ≠ 0 → (s.unit (i + 1)).config.kind ≠ .idle) →
        exec (.setRoute tag route l) s =
          .next (State.answered 0x09 tag (.ok [])
            { s with rtb := s.rtb.set route.toNat (l.map BitVec.toNat ++ List.replicate (24 - l.length) 0) })))

/-- CAM WRITE: its checks in their order, the point its fields name, and the write. WRONG_STATE in UNCONFIGURED; BAD_FIELD
for a bank other than A or B, a start index above the count, a start index plus the number of points above 32, or a point
out of Table 7-1; BANK_ACTIVE for the ACTIVE bank; BANK_PENDING for the ARMED bank or a bank under trial (R130). Either
bank while it is OPEN and not under trial: points replaced from the start index, or the bank cut there. A point: its
position up to 1,200,000, the stroke and the action by the codes of Table 7-1, k present and at most 7 for AUX ON, AUX OFF
and CHECK and absent for MARK, the expected level present for CHECK alone (R128, R170). A level or presence byte of the
payload that is neither 0 nor 1 is BAD_FIELD after the line state (R130, R170; log 13). A payload longer than 240 bytes is
BAD_LENGTH (R170; log 50). -/
def Obligations.CamWriteWritesTheBank : Prop :=
  (∀ (s : State) (tag b start : Byte) (l : List PointFields) (refused : Reason → Prop), s.Free →
    (∀ why, refused why ↔ exec (.camWrite tag b start l) s = .next (s.answered 0x0A tag (.refused why []))) →
    (240 < (Request.camWrite b start l).payload.length → refused .badLength) ∧
    ((Request.camWrite b start l).payload.length ≤ 240 →
      (s.isq.line = .unconfigured → refused .wrongState) ∧
      (s.isq.line ≠ .unconfigured →
        ((1 < b.toNat ∨ ∃ p ∈ l, camPoint p = none) → refused .badField) ∧
        ∀ (id : BankId) (new : List CamPoint), b = (match id with | .a => 0 | .b => 1) → l.mapM camPoint = some new →
          ((s.cam.bank id).points.length < start.toNat ∨ 32 < start.toNat + l.length → refused .badField) ∧
          (start.toNat ≤ (s.cam.bank id).points.length → start.toNat + l.length ≤ 32 →
            ((s.cam.bank id).state = .active → refused .bankActive) ∧
            ((s.cam.bank id).state = .armed ∨ ((s.cam.bank id).state = .open_ ∧ (s.cam.bank id).underTrial = true) →
              refused .bankPending) ∧
            ((s.cam.bank id).state = .open_ → (s.cam.bank id).underTrial = false →
              (l = [] →
                exec (.camWrite tag b start l) s =
                  .next ((s.modBank id fun x => { x with points := x.points.take start.toNat }).answered 0x0A tag
                    (.ok ([b] ++ u8 start.toNat)))) ∧
              (l ≠ [] → ∃ points : List CamPoint,
                points = (s.cam.bank id).points.take start.toNat ++ new ++
                  (s.cam.bank id).points.drop (start.toNat + l.length) ∧
                points.length = max (s.cam.bank id).points.length (start.toNat + l.length) ∧
                exec (.camWrite tag b start l) s =
                  .next ((s.modBank id fun x => { x with points := points }).answered 0x0A tag
                    (.ok ([b] ++ u8 points.length))))))))) ∧
  (∀ (p : PointFields) (c : CamPoint), camPoint p = some c ↔
    p.position.toNat ≤ 1200000 ∧ c.position = p.position.toNat ∧
      ((p.stroke = 0 ∧ c.stroke = .advance) ∨ (p.stroke = 1 ∧ c.stroke = .returning)) ∧
      ((p.action = 3 ∧ p.k = none ∧ p.level = none ∧ c.action = .mark) ∨
        ∃ k : Byte, p.k = some k ∧ k.toNat ≤ 7 ∧
          ((p.action = 0 ∧ p.level = none ∧ c.action = .auxOn k.toNat) ∨
            (p.action = 1 ∧ p.level = none ∧ c.action = .auxOff k.toNat) ∨
            ∃ e : Bool, p.action = 2 ∧ p.level = some e ∧ c.action = .check k.toNat e))) ∧
  ∀ (s : State) (tag : Byte) (payload : List Byte), Request.parse 0x0A payload = .error .badField →
    s.execute { kind := 0x0A, tag := tag, payload := payload } =
      (.refused (if s.isq.line = .unconfigured then .wrongState else .badField) [], s)

/-- CAM ARM arms a valid OPEN bank while the other is not ARMED, and readiness is judged (R53, R131); CAM DISARM
opens an ARMED bank the open index does not rely on (R132). Either bank may be the one. The refusals of both in the order
of their checks, CAM_INVALID with the point and its fault among them, and an ARM of an ARMED bank, which is OK and changes
nothing. What is at fault in a bank (R131): a point above S, or one not above the point before it of its direction; the
bank is valid where no point is, and the fault named is that of the lowest-numbered one. A point that is both is named
ABOVE_S, and the faults' codes are the place in the rule's list: the model's choices (log 14). -/
def Obligations.CamArmAndDisarm : Prop :=
  (∀ (s : State) (tag b : Byte) (id : BankId), s.Free → s.isq.line ≠ .unconfigured →
    b = (match id with | .a => 0 | .b => 1) →
    ((s.cam.bank id).state = .open_ → (s.cam.bank id.other).state ≠ .armed →
      (s.cam.bank id).fault s.mgn.settings.stroke = none →
      exec (.camArm tag b) s =
        .next ((State.judgeReady (s.modBank id fun x => { x with state := .armed })).answered 0x0B tag (.ok []))) ∧
    ((s.cam.bank id).state = .open_ → (s.cam.bank id.other).state = .armed →
      exec (.camArm tag b) s = .next (s.answered 0x0B tag (.refused .bankPending []))) ∧
    ((s.cam.bank id).state = .armed → (s.prg.openIndex = false ∨ (s.cam.bank id.other).state = .active) →
      exec (.camDisarm tag b) s =
        .next ((s.modBank id fun x => { x with state := .open_ }).answered 0x0C tag (.ok []))) ∧
    ((s.cam.bank id).state = .armed → s.prg.openIndex = true → (s.cam.bank id.other).state ≠ .active →
      exec (.camDisarm tag b) s = .next (s.answered 0x0C tag (.refused .bankPending []))) ∧
    ((s.cam.bank id).state = .active →
      exec (.camArm tag b) s = .next (s.answered 0x0B tag (.refused .bankActive [])) ∧
      exec (.camDisarm tag b) s = .next (s.answered 0x0C tag (.refused .bankActive []))) ∧
    ((s.cam.bank id).state = .armed → exec (.camArm tag b) s = .next (s.answered 0x0B tag (.ok []))) ∧
    ((s.cam.bank id).state = .open_ →
      exec (.camDisarm tag b) s = .next (s.answered 0x0C tag (.refused .wrongState []))) ∧
    ∀ (i : Nat) (why : CamFault), (s.cam.bank id).state = .open_ → (s.cam.bank id.other).state ≠ .armed →
      (s.cam.bank id).fault s.mgn.settings.stroke = some (i, why) →
      exec (.camArm tag b) s =
        .next (s.answered 0x0B tag
          (.refused .camInvalid [BitVec.ofNat 8 i, match why with | .aboveS => 0 | .order => 1]))) ∧
  (∀ (s : State) (tag b : Byte) (why : Reason), s.Free →
    (s.isq.line = .unconfigured ∧ why = .wrongState) ∨ (s.isq.line ≠ .unconfigured ∧ 1 < b.toNat ∧ why = .badField) →
    exec (.camArm tag b) s = .next (s.answered 0x0B tag (.refused why [])) ∧
    exec (.camDisarm tag b) s = .next (s.answered 0x0C tag (.refused why []))) ∧
  ∀ (x : Bank) (stroke : Nat) (bad : Nat → CamPoint → Prop),
    (∀ i p, bad i p ↔ x.points[i]? = some p ∧
      (stroke < p.position ∨
        ∃ j q, j < i ∧ x.points[j]? = some q ∧ q.stroke = p.stroke ∧ p.position ≤ q.position ∧
          ∀ m r, j < m → m < i → x.points[m]? = some r → r.stroke ≠ p.stroke)) →
    ((∀ i p, ¬bad i p) → x.fault stroke = none) ∧
    (∀ i p, bad i p → (∀ j q, j < i → ¬bad j q) →
      x.fault stroke = some (i, if stroke < p.position then .aboveS else .order))

/-- TRIAL of either bank in HELD with the bar home, the lift DOWN and the line node answering, the bank valid if it is
OPEN: it opens the trial record, sets the under-trial flag, takes the enable off, and plans the advance from 0 to S. Its
refusals in the order of its checks, CAM_INVALID with the point and the fault (R125, R139; the codes of the faults, log
14). -/
def Obligations.TrialStarts : Prop :=
  (∀ (s : State) (tag b : Byte) (id : BankId), s.Free → b = (match id with | .a => 0 | .b => 1) → s.isq.line = .held →
    s.cam.trial = none → s.barHome = true → s.sct.liftState = .down → s.nodeLost 30 = false →
    ((s.cam.bank id).state = .open_ → (s.cam.bank id).fault s.mgn.settings.stroke = none) →
    ∃ t p, exec (.trial tag b) s = .next t ∧ t.mgn.motion = .trial ∧ t.mgn.enable = false ∧ t.mgn.plan = some p ∧
      p = makePlan s.mgn.settings .advance 0 s.mgn.settings.stroke s.mgn.settings.stroke ∧
      t.cam.trial = some { bank := id, wouldApply := 0, checkPass := 0, checkFail := 0, notEvaluated := 0, fired := [] } ∧
      t.cam.bank id = { s.cam.bank id with underTrial := true } ∧ t.cam.bank id.other = s.cam.bank id.other ∧
      t.cam.aux = s.cam.aux ∧ (t.clu.replySlot.map Reply.answer) = some (.accepted []) ∧ t.isq = s.isq ∧
      t.prg = s.prg ∧ t.rtb = s.rtb ∧ t.stu = s.stu ∧ t.sct = s.sct ∧ t.fdu = s.fdu ∧ t.rgc = s.rgc) ∧
  ∀ (s : State) (tag b : Byte) (may : Prop), s.Free → (may ↔ s.isq.line = .held ∧ s.cam.trial = none) →
    (¬may → exec (.trial tag b) s = .next (s.answered 0x1D tag (.refused .wrongState []))) ∧
    (may → 1 < b.toNat → exec (.trial tag b) s = .next (s.answered 0x1D tag (.refused .badField []))) ∧
    ∀ id : BankId, may → b = (match id with | .a => 0 | .b => 1) →
      (s.barHome = false ∨ s.sct.liftState ≠ .down ∨ s.nodeLost 30 = true →
        exec (.trial tag b) s = .next (s.answered 0x1D tag (.refused .notHome []))) ∧
      ∀ (i : Nat) (why : CamFault), s.barHome = true → s.sct.liftState = .down → s.nodeLost 30 = false →
        (s.cam.bank id).state = .open_ → (s.cam.bank id).fault s.mgn.settings.stroke = some (i, why) →
        exec (.trial tag b) s =
          .next (s.answered 0x1D tag (.refused .camInvalid [BitVec.ofNat 8 i, match why with | .aboveS => 0 | .order => 1]))

/-! ## The register (R8, R13, R14, R17 to R23, R29 to R31, R36, R37, R42) -/

/-- PALLET ENROL at TAIL: WRONG_STATE in UNCONFIGURED, BAD_FIELD for an id outside 1..250, DUPLICATE for an id that has a
record or is the read id of a FOREIGN slot 0, TABLE_FULL with 64 records, QUEUE_FULL where the queue length plus the
reserved count is C or more, in that order; otherwise the record is created at the tail of the return queue, and the change
of the queue lets FDU judge a feed and ISQ readiness (R17, R53, R143). The feed is judged before readiness: the model's
choice (log 7). The reserved count is 1 while the open-index flag is set and the pallet in slot N+1 would go to the queue,
else 0 (R9, R14). A place other than TAIL and LOAD is BAD_FIELD after the line state (R17, R18, R170). -/
def Obligations.EnrolTailJoinsTheQueue : Prop :=
  (∀ (s : State) (tag id : Byte) (refused : Reason → Prop), s.Free →
    (∀ why, refused why ↔ exec (.palletEnrolTail tag id) s = .next (s.answered 0x0D tag (.refused why []))) →
    (s.isq.line = .unconfigured → refused .wrongState) ∧
    (s.isq.line ≠ .unconfigured →
      (¬(1 ≤ id.toNat ∧ id.toNat ≤ 250) → refused .badField) ∧
      (1 ≤ id.toNat → id.toNat ≤ 250 →
        (s.record id.toNat ≠ none ∨ s.foreignId = some id.toNat → refused .duplicate) ∧
        (s.record id.toNat = none → s.foreignId ≠ some id.toNat →
          (64 ≤ s.prg.records.length → refused .tableFull) ∧
          (s.prg.records.length < 64 →
            (s.prg.capacity ≤ s.prg.queue.length + s.reserved → refused .queueFull) ∧
            (s.prg.queue.length + s.reserved < s.prg.capacity →
              exec (.palletEnrolTail tag id) s =
                .next ((State.judge { s with prg := { s.prg with
                  records := insertRecord (Pallet.fresh id.toNat none) s.prg.records
                  queue := s.prg.queue ++ [id.toNat] } }).answered 0x0D tag (.ok [])))))))) ∧
  (∀ (s : State) (toQueue : Prop),
    (toQueue ↔ s.prg.openIndex = true ∧ ∃ p r, s.palletAt (s.n + 1) = some p ∧ s.record p = some r ∧ r.withdraw = false ∧
      (s.prg.inspectionLimit = 0 ∨ min (r.cycles + 1) 9999999 < s.prg.inspectionLimit)) →
    (toQueue → s.reserved = 1) ∧ (¬toQueue → s.reserved = 0)) ∧
  ∀ (s : State) (place id : Byte), 1 < place.toNat →
    (Request.palletEnrol place id).perform s =
      (.refused (if s.isq.line = .unconfigured then .wrongState else .badField) [], s)

/-- PALLET ENROL at LOAD: WRONG_STATE in UNCONFIGURED, BAD_FIELD for an id outside 1..250, WRONG_STATE where slot 0 is not
FOREIGN, BAD_FIELD for an id that is not the read id, DUPLICATE for an id that has a record, TABLE_FULL with 64 records, in
that order; otherwise the FOREIGN pallet is registered: slot 0 takes the id, the record is fresh, position 0 becomes
AWAITING_BLOCK with the load-wait timer loaded (R18, R150). -/
def Obligations.EnrolLoadRegistersTheForeignPallet : Prop :=
  ∀ (s : State) (tag id : Byte) (refused : Reason → Prop), s.Free →
    (∀ why, refused why ↔ exec (.palletEnrolLoad tag id) s = .next (s.answered 0x0D tag (.refused why []))) →
    (s.isq.line = .unconfigured → refused .wrongState) ∧
    (s.isq.line ≠ .unconfigured →
      (¬(1 ≤ id.toNat ∧ id.toNat ≤ 250) → refused .badField) ∧
      (1 ≤ id.toNat → id.toNat ≤ 250 →
        ((∀ read, s.slot 0 ≠ .foreign read) → refused .wrongState) ∧
        (∀ read, s.slot 0 = .foreign read → read ≠ id.toNat → refused .badField) ∧
        (s.slot 0 = .foreign id.toNat →
          (s.record id.toNat ≠ none → refused .duplicate) ∧
          (s.record id.toNat = none → 64 ≤ s.prg.records.length → refused .tableFull) ∧
          (s.record id.toNat = none → s.prg.records.length < 64 → s.fdu.state = .foreign →
            ∃ t, exec (.palletEnrolLoad tag id) s = .next t ∧ t.prg.map = s.prg.map.set 0 (.pallet id.toNat) ∧
              t.prg.records = insertRecord (Pallet.fresh id.toNat none) s.prg.records ∧ t.prg.queue = s.prg.queue ∧
              t.prg.offline = s.prg.offline ∧ t.fdu.state = .awaitingBlock ∧
              t.fdu.loadWait = some (s.fdu.settings.loadWait * 1000) ∧ t.isq = s.isq ∧ t.rtb = s.rtb ∧ t.stu = s.stu ∧
              t.sct = s.sct ∧ t.mgn = s.mgn ∧ t.cam = s.cam ∧ t.rgc = s.rgc ∧
              (t.clu.replySlot.map Reply.answer) = some (.ok [])))))

/-- PALLET PLACE, accepted in HELD and in HALTED with halt phase LOCATE, CLAMP or VERIFY, with its checks in their order
(R19, R157); a serial too long for a frame is BAD_LENGTH, the model's reading (log 50). A new id gets a record with the
block given; an existing OFFLINE record leaves the offline set and takes the block given or keeps its own; the slot takes
the id (R3, R19). At position 0 the position-0 state is READY with a block and AWAITING_BLOCK without, no BLOCK CARRIED
(R19, R35, R150); at N+1 the unload watch is judged (R39); at a MACHINE or GAUGE station CLAMP is asked for in HELD and
the seat-edit flag set in HALTED (R106, R157); at an IDLE station nothing more. The reply states the pallet's block or
that it has none, in the model's form (log 47); locations are read from the places (log 31). -/
def Obligations.PlaceAtAStation : Prop :=
  (∀ (s : State) (tag id p : Byte), s.Free → s.isq.line = .held → 1 ≤ id.toNat → id.toNat ≤ 250 → 1 ≤ p.toNat →
    p.toNat ≤ s.n → s.slot p.toNat = .empty → s.foreignId ≠ some id.toNat → s.record id.toNat = none →
    s.prg.records.length < 64 →
    ∃ u : State, u = { s with prg := { s.prg with
        records := insertRecord (Pallet.fresh id.toNat none) s.prg.records
        map := s.prg.map.set p.toNat (.pallet id.toNat) } } ∧
      exec (.palletPlace tag id p none) s =
        .next ((if (s.unit p.toNat).config.kind = .idle then u
          else u.requestPulse (.clamp p.toNat) .engage .placedPallet).answered 0x0E tag (.ok [0]))) ∧
  (∀ (s : State) (tag id : Byte), s.Free → s.isq.line = .held → 1 ≤ id.toNat → id.toNat ≤ 250 →
    s.fdu.state = .empty → s.slot 0 = .empty → s.prg.map ≠ [] → s.record id.toNat = none →
    s.prg.records.length < 64 →
    (∀ (f : BlockFields) (x : Block), serialOk f.serial = true → f.variant.toNat ≤ 7 →
      ((f.disposition = 0 ∧ x.disposition = .good) ∨ (f.disposition = 1 ∧ x.disposition = .suspect) ∨
        (f.disposition = 2 ∧ x.disposition = .reject)) →
      x.serial = f.serial → x.variant = f.variant.toNat → x.lock = false → x.log = [] →
      ∃ t, exec (.palletPlace tag id 0 (some f)) s = .next t ∧ t.prg.map = s.prg.map.set 0 (.pallet id.toNat) ∧
        t.prg.records = insertRecord (Pallet.fresh id.toNat (some x)) s.prg.records ∧ t.prg.queue = s.prg.queue ∧
        t.prg.offline = s.prg.offline ∧ t.fdu = { s.fdu with state := .ready, loadWait := none } ∧
        (t.clu.replySlot.map Reply.answer) = some (.ok (1 :: (listOf (fun b => [b]) x.serial ++ u8 x.variant ++
          [f.disposition] ++ [0] ++ [0]))) ∧
        (∀ q ∈ t.clu.reports, q.report.kind = 0x8E → q ∈ s.clu.reports) ∧ t.isq = s.isq ∧ t.rtb = s.rtb ∧
        t.stu = s.stu ∧ t.sct = s.sct ∧ t.mgn = s.mgn ∧ t.cam = s.cam ∧ t.rgc = s.rgc) ∧
    ∃ t, exec (.palletPlace tag id 0 none) s = .next t ∧ t.prg.map = s.prg.map.set 0 (.pallet id.toNat) ∧
      t.prg.records = insertRecord (Pallet.fresh id.toNat none) s.prg.records ∧ t.prg.queue = s.prg.queue ∧
      t.prg.offline = s.prg.offline ∧
      t.fdu = { s.fdu with state := .awaitingBlock, loadWait := some (s.fdu.settings.loadWait * 1000) } ∧
      (t.clu.replySlot.map Reply.answer) = some (.ok [0]) ∧ t.isq = s.isq ∧ t.rtb = s.rtb ∧ t.stu = s.stu ∧
      t.sct = s.sct ∧ t.mgn = s.mgn ∧ t.cam = s.cam ∧ t.rgc = s.rgc) ∧
  ∀ (s : State) (tag id p : Byte) (f : Option BlockFields) (edit good : Prop), s.Free →
    (edit ↔ s.isq.line = .held ∨
      (s.isq.line = .halted ∧ ∃ r, s.isq.haltRecord = some r ∧ r.phase ∈ [.locate, .clamp, .verify])) →
    (good ↔ 1 ≤ id.toNat ∧ id.toNat ≤ 250 ∧ p.toNat ≤ s.n + 1 ∧
      ∀ g, f = some g → serialOk g.serial = true ∧ g.variant.toNat ≤ 7 ∧ g.disposition.toNat ≤ 2) →
    (∀ refused : Reason → Prop,
      (∀ why, refused why ↔ exec (.palletPlace tag id p f) s = .next (s.answered 0x0E tag (.refused why []))) →
      (∀ g, f = some g → 234 < g.serial.length → refused .badLength) ∧
      ((∀ g, f = some g → g.serial.length ≤ 234) →
        (¬edit → refused .wrongState) ∧
        (edit → (¬good → refused .badField) ∧
          (good →
            (s.slot p.toNat ≠ .empty ∨ (p = 0 ∧ s.fdu.state ≠ .empty) ∨ s.foreignId = some id.toNat →
              refused .wrongState) ∧
            (s.slot p.toNat = .empty → (p = 0 → s.fdu.state = .empty) → s.foreignId ≠ some id.toNat →
              (∀ r, s.record id.toNat = some r →
                (s.location id.toNat ≠ .offline → refused .wrongState) ∧
                (s.location id.toNat = .offline → f ≠ none → r.block ≠ none → refused .badField)) ∧
              (s.record id.toNat = none → 64 ≤ s.prg.records.length → refused .tableFull)))))) ∧
    (∀ (x b : Option Block) (u : State) (done : State → Prop), edit → good → s.slot p.toNat = .empty →
      (p = 0 → s.fdu.state = .empty) → s.foreignId ≠ some id.toNat →
      ((f = none ∧ x = none) ∨ ∃ g d, f = some g ∧
        ((g.disposition = 0 ∧ d = .good) ∨ (g.disposition = 1 ∧ d = .suspect) ∨ (g.disposition = 2 ∧ d = .reject)) ∧
        x = some { serial := g.serial, variant := g.variant.toNat, disposition := d, lock := false, log := [] }) →
      ((s.record id.toNat = none ∧ s.prg.records.length < 64 ∧ b = x ∧
          u = { s with prg := { s.prg with
            records := insertRecord (Pallet.fresh id.toNat x) s.prg.records
            map := s.prg.map.set p.toNat (.pallet id.toNat) } }) ∨
        (∃ r, s.record id.toNat = some r ∧ s.location id.toNat = .offline ∧ (x = none ∨ r.block = none) ∧
          b = x.or r.block ∧
          u = { s with prg := { s.prg with
            offline := s.prg.offline.filter (· ≠ id.toNat)
            records := s.prg.records.map fun q => if q.id = id.toNat then { q with block := x.or q.block } else q
            map := s.prg.map.set p.toNat (.pallet id.toNat) } })) →
      (∀ v : State, done v ↔
        exec (.palletPlace tag id p f) s = .next (v.answered 0x0E tag (.ok (opt Block.bytes b)))) →
      (p = 0 → s.prg.map ≠ [] → done (u.toLoad (if b = none then .awaitingBlock else .ready))) ∧
      (p.toNat = s.n + 1 → done u.judgeWatch) ∧
      (1 ≤ p.toNat → p.toNat ≤ s.n →
        ((s.unit p.toNat).config.kind = .idle → done u) ∧
        ((s.unit p.toNat).config.kind ≠ .idle →
          (s.isq.line = .held → done (u.requestPulse (.clamp p.toNat) .engage .placedPallet)) ∧
          (s.isq.line = .halted → done { u with isq := { s.isq with seatEdit := true } }))))

/-- PALLET UNPLACE, accepted in HELD and in HALTED with halt phase LOCATE, CLAMP or VERIFY, with its checks in their order
(R20, R157). The slot becomes EMPTY and the id joins the offline set; the record is as it was (R20). At a station SCT opens
the clamps of empty fixtures and the unit's state stays (R20, R106); at N+1 the unload watch is judged (R39); at position 0
the position-0 state is EMPTY, the load-wait timer stops and the load hold is set (R149, R151), with the load check that
ends a disagreement (R38). That LOAD STATE comes where the hold alone changes is the model's choice (log 29). -/
def Obligations.UnplaceTakesThePalletOffline : Prop :=
  (∀ (s : State) (tag p : Byte) (id : Nat), s.Free → s.isq.line = .held → 1 ≤ p.toNat → p.toNat ≤ s.n →
    s.palletAt p.toNat = some id → (s.unit p.toNat).state.atWork = false →
    exec (.palletUnplace tag p) s =
      .next ((State.releaseEmptyFixtures { s with prg := { s.prg with
        map := s.prg.map.set p.toNat .empty, offline := insertAsc id s.prg.offline } }).answered 0x0F tag (.ok []))) ∧
  ∀ (s : State) (tag p : Byte) (edit : Prop) (refused : Reason → Prop), s.Free →
    (edit ↔ s.isq.line = .held ∨
      (s.isq.line = .halted ∧ ∃ r, s.isq.haltRecord = some r ∧ r.phase ∈ [.locate, .clamp, .verify])) →
    (∀ why, refused why ↔ exec (.palletUnplace tag p) s = .next (s.answered 0x0F tag (.refused why []))) →
    (¬edit → refused .wrongState) ∧
    (edit →
      (s.n + 1 < p.toNat → refused .badField) ∧
      (p.toNat ≤ s.n + 1 →
        (s.palletAt p.toNat = none → refused .wrongState) ∧
        (∀ (id : Nat) (u : State) (done : State → Prop), s.palletAt p.toNat = some id →
          u = { s with prg := { s.prg with
            map := s.prg.map.set p.toNat .empty, offline := insertAsc id s.prg.offline } } →
          (∀ v : State, done v ↔ exec (.palletUnplace tag p) s = .next (v.answered 0x0F tag (.ok []))) →
          (1 ≤ p.toNat → p.toNat ≤ s.n →
            ((s.unit p.toNat).state ∈ [.working, .late, .abandoning] → refused .wrongState) ∧
            ((s.unit p.toNat).state ∈ [.vacant, .seated, .complete, .faulted] → done u.releaseEmptyFixtures)) ∧
          (p.toNat = s.n + 1 → done u.judgeWatch) ∧
          (p = 0 → done (u.setLoad .empty true) ∧
            ∃ t, exec (.palletUnplace tag p) s = .next t ∧ t.prg.map = u.prg.map ∧ t.prg.offline = u.prg.offline ∧
              t.prg.records = s.prg.records ∧ t.prg.queue = s.prg.queue ∧
              t.fdu = { s.fdu with state := .empty, loadHold := true, loadWait := none } ∧
              (s.fdu.state ≠ .empty → t.prg.disagreement = none) ∧ t.isq = s.isq ∧ t.rtb = s.rtb ∧ t.stu = s.stu ∧
              t.sct = s.sct ∧ t.mgn = s.mgn ∧ t.cam = s.cam ∧ t.rgc = s.rgc))))

/-- PALLET ADMIT: WRONG_STATE in UNCONFIGURED, BAD_FIELD for an id outside 1..250, UNKNOWN_PALLET for an id with no record,
WRONG_STATE for a pallet that is not OFFLINE or an id that is the read id of a FOREIGN slot 0, QUEUE_FULL where the queue
length plus the reserved count is C or more, in that order; otherwise the pallet returns to the tail of the queue, its count
reset on request, and the change of the queue lets FDU judge a feed and ISQ readiness (R21, R53, R143). The feed comes
before readiness: the model's choice (log 7); locations are read from the places (log 31). -/
def Obligations.AdmitReturnsThePallet : Prop :=
  ∀ (s : State) (tag id : Byte) (reset : Bool) (refused : Reason → Prop), s.Free →
    (∀ why, refused why ↔ exec (.palletAdmit tag id reset) s = .next (s.answered 0x10 tag (.refused why []))) →
    (s.isq.line = .unconfigured → refused .wrongState) ∧
    (s.isq.line ≠ .unconfigured →
      (¬(1 ≤ id.toNat ∧ id.toNat ≤ 250) → refused .badField) ∧
      (1 ≤ id.toNat → id.toNat ≤ 250 →
        (s.record id.toNat = none → refused .unknownPallet) ∧
        (s.record id.toNat ≠ none →
          (s.location id.toNat ≠ .offline ∨ s.foreignId = some id.toNat → refused .wrongState) ∧
          (s.location id.toNat = .offline → s.foreignId ≠ some id.toNat →
            (s.prg.capacity ≤ s.prg.queue.length + s.reserved → refused .queueFull) ∧
            (s.prg.queue.length + s.reserved < s.prg.capacity →
              exec (.palletAdmit tag id reset) s =
                .next ((State.judge { s with prg := { s.prg with
                  offline := s.prg.offline.filter (· != id.toNat)
                  queue := s.prg.queue ++ [id.toNat]
                  records := s.prg.records.map fun x =>
                    if x.id = id.toNat then { x with cycles := if reset then 0 else x.cycles } else x } }).answered 0x10 tag
                  (.ok [])))))))

/-- PALLET WITHDRAW: WRONG_STATE, BAD_FIELD, UNKNOWN_PALLET in that order; otherwise the withdraw flag of the record is
set and no other pallet's, and readiness is judged; a pallet at N+1 of an open index loses its reservation (R9, R22,
R53). -/
def Obligations.WithdrawSetsTheFlag : Prop :=
  ∀ (s : State) (tag id : Byte), s.Free →
    (s.isq.line = .unconfigured →
      exec (.palletWithdraw tag id) s = .next (s.answered 0x11 tag (.refused .wrongState []))) ∧
    (s.isq.line ≠ .unconfigured → ¬(1 ≤ id.toNat ∧ id.toNat ≤ 250) →
      exec (.palletWithdraw tag id) s = .next (s.answered 0x11 tag (.refused .badField []))) ∧
    (s.isq.line ≠ .unconfigured → 1 ≤ id.toNat → id.toNat ≤ 250 → s.record id.toNat = none →
      exec (.palletWithdraw tag id) s = .next (s.answered 0x11 tag (.refused .unknownPallet []))) ∧
    (s.isq.line ≠ .unconfigured → 1 ≤ id.toNat → id.toNat ≤ 250 → (s.record id.toNat).isSome = true →
      ∃ u : State, u = { s with prg := { s.prg with
          records := s.prg.records.map fun x => if x.id = id.toNat then { x with withdraw := true } else x } } ∧
        exec (.palletWithdraw tag id) s = .next (u.judgeReady.answered 0x11 tag (.ok [])) ∧
        (s.palletAt (s.n + 1) = some id.toNat → u.reserved = 0))

/-- PALLET RETIRE: WRONG_STATE, BAD_FIELD, UNKNOWN_PALLET, WRONG_STATE for a pallet that is not OFFLINE, LOCKED for a
locked block, in that order; otherwise the id leaves the offline set and the record is deleted (R23). -/
def Obligations.RetireDeletesTheRecord : Prop :=
  ∀ (s : State) (tag id : Byte), s.Free →
    (s.isq.line = .unconfigured →
      exec (.palletRetire tag id) s = .next (s.answered 0x12 tag (.refused .wrongState []))) ∧
    (s.isq.line ≠ .unconfigured → ¬(1 ≤ id.toNat ∧ id.toNat ≤ 250) →
      exec (.palletRetire tag id) s = .next (s.answered 0x12 tag (.refused .badField []))) ∧
    (s.isq.line ≠ .unconfigured → 1 ≤ id.toNat → id.toNat ≤ 250 → s.record id.toNat = none →
      exec (.palletRetire tag id) s = .next (s.answered 0x12 tag (.refused .unknownPallet []))) ∧
    ∀ r : Pallet, s.isq.line ≠ .unconfigured → 1 ≤ id.toNat → id.toNat ≤ 250 → s.record id.toNat = some r →
      (s.location id.toNat ≠ .offline →
        exec (.palletRetire tag id) s = .next (s.answered 0x12 tag (.refused .wrongState []))) ∧
      (s.location id.toNat = .offline → r.block.any Block.lock = true →
        exec (.palletRetire tag id) s = .next (s.answered 0x12 tag (.refused .locked []))) ∧
      (s.location id.toNat = .offline → r.block.any Block.lock = false →
        exec (.palletRetire tag id) s =
          .next (State.answered 0x12 tag (.ok []) { s with prg := { s.prg with
            offline := s.prg.offline.filter (· != id.toNat)
            records := s.prg.records.filter (·.id != id.toNat) } }))

/-- On a waiting pallet BLOCK ASSIGN with BLOCK on creates a GOOD, unlocked block with an empty log, and BLOCK EMPTY with
BLOCK off declares the pallet empty; position 0 becomes READY with the load-wait timer stopped. With BLOCK off the one is
NO_BLOCK, with BLOCK on the other is WRONG_STATE (R36, R37). The checks of both in their order; the effect of both in
every line state, on a waiting pallet and on one declared empty with no index opened since: the block record, position 0
READY, the load check (R38), and readiness judged, which opens the index in WAIT where the six conditions hold (R53). That
a serial too long for a frame is BAD_LENGTH is the model's reading (log 50). -/
def Obligations.BlockAssignAndEmpty : Prop :=
  (∀ (s : State) (tag : Byte) (serial : List Byte) (v : Byte) (id : Nat), s.Free → s.isq.line ≠ .unconfigured →
    serialOk serial = true → v.toNat ≤ 7 → s.fdu.state = .awaitingBlock → s.palletAt 0 = some id →
    ((s.image 0).block = false →
      exec (.blockAssign tag serial v) s = .next (s.answered 0x13 tag (.refused .noBlock []))) ∧
    ((s.image 0).block = true → s.isq.line ≠ .running →
      ∃ t, exec (.blockAssign tag serial v) s = .next t ∧
        t.prg.records = (s.prg.records.map fun x => if x.id = id then
          { x with block := some { serial := serial, variant := v.toNat, disposition := .good, lock := false, log := [] } }
          else x) ∧
        t.fdu = { s.fdu with state := .ready, loadWait := none } ∧ t.prg.map = s.prg.map ∧
        t.prg.queue = s.prg.queue ∧ t.prg.offline = s.prg.offline ∧ t.isq = s.isq ∧ t.rtb = s.rtb ∧ t.stu = s.stu ∧
        t.sct = s.sct ∧ t.mgn = s.mgn ∧ t.cam = s.cam ∧ t.rgc = s.rgc ∧
        (t.clu.replySlot.map Reply.answer) = some (.ok [])) ∧
    ((s.image 0).block = true → exec (.blockEmpty tag) s = .next (s.answered 0x14 tag (.refused .wrongState []))) ∧
    ((s.image 0).block = false → s.isq.line ≠ .running →
      ∃ t, exec (.blockEmpty tag) s = .next t ∧ t.fdu = { s.fdu with state := .ready, loadWait := none } ∧
        t.prg.records = s.prg.records ∧ t.prg.map = s.prg.map ∧ t.prg.queue = s.prg.queue ∧
        t.prg.offline = s.prg.offline ∧ t.isq = s.isq ∧ t.rtb = s.rtb ∧ t.stu = s.stu ∧ t.sct = s.sct ∧
        t.mgn = s.mgn ∧ t.cam = s.cam ∧ t.rgc = s.rgc ∧ (t.clu.replySlot.map Reply.answer) = some (.ok []))) ∧
  ∀ (s : State) (tag : Byte) (serial : List Byte) (v : Byte) (may good : Prop) (answer : Byte → Instr → Answer → State → Prop),
    s.Free →
    (may ↔ s.fdu.state = .awaitingBlock ∨ (s.fdu.state = .ready ∧ s.blockAt 0 = none ∧ s.prg.openIndex = false)) →
    (good ↔ 1 ≤ serial.length ∧ serial.length ≤ 16 ∧ (∀ b ∈ serial, 0x20 ≤ b.toNat ∧ b.toNat ≤ 0x7E) ∧ v.toNat ≤ 7) →
    (∀ kind c a t, answer kind c a t ↔ exec c s = .next (State.answered kind tag a t)) →
    (238 < serial.length → answer 0x13 (.blockAssign tag serial v) (.refused .badLength []) s) ∧
    (serial.length ≤ 238 →
      (s.isq.line = .unconfigured → answer 0x13 (.blockAssign tag serial v) (.refused .wrongState []) s) ∧
      (s.isq.line ≠ .unconfigured →
        (¬good → answer 0x13 (.blockAssign tag serial v) (.refused .badField []) s) ∧
        (good → ¬may → answer 0x13 (.blockAssign tag serial v) (.refused .wrongState []) s) ∧
        (good → may → (s.image 0).block = false → answer 0x13 (.blockAssign tag serial v) (.refused .noBlock []) s))) ∧
    (s.isq.line = .unconfigured ∨ ¬may ∨ (s.image 0).block = true →
      answer 0x14 (.blockEmpty tag) (.refused .wrongState []) s) ∧
    (s.isq.line ≠ .unconfigured → may → ∀ fin : State → State,
      (∀ y, fin y = if (State.loadCheck (y.toLoad .ready)).ready = true then
        (State.loadCheck (y.toLoad .ready)).startIndex else State.loadCheck (y.toLoad .ready)) →
      ((s.image 0).block = false → answer 0x14 (.blockEmpty tag) (.ok []) (fin s)) ∧
      (∀ id, good → (s.image 0).block = true → s.palletAt 0 = some id →
        answer 0x13 (.blockAssign tag serial v) (.ok []) (fin { s with prg := { s.prg with
          records := s.prg.records.map fun q => if q.id = id then
            { q with
              block := some { serial := serial, variant := v.toNat, disposition := .good, lock := false, log := [] } }
            else q } }))) ∧
    ∀ y : State, y.fdu.state = .ready →
      y.toLoad .ready = { y with fdu := { y.fdu with loadWait := none } }

/-- DISPOSE: WRONG_STATE, BAD_FIELD, UNKNOWN_PALLET, NO_BLOCK, LOCKED, in that order; otherwise the disposition of the
block takes the value, better or worse, with no log entry and no report (R42). -/
def Obligations.DisposeSetsTheDisposition : Prop :=
  ∀ (s : State) (tag id d : Byte), s.Free →
    (s.isq.line = .unconfigured →
      exec (.dispose tag id d) s = .next (s.answered 0x15 tag (.refused .wrongState []))) ∧
    (s.isq.line ≠ .unconfigured → (¬(1 ≤ id.toNat ∧ id.toNat ≤ 250) ∨ 2 < d.toNat) →
      exec (.dispose tag id d) s = .next (s.answered 0x15 tag (.refused .badField []))) ∧
    (s.isq.line ≠ .unconfigured → 1 ≤ id.toNat → id.toNat ≤ 250 → d.toNat ≤ 2 →
      (s.record id.toNat = none →
        exec (.dispose tag id d) s = .next (s.answered 0x15 tag (.refused .unknownPallet []))) ∧
      (∀ r : Pallet, s.record id.toNat = some r → r.block = none →
        exec (.dispose tag id d) s = .next (s.answered 0x15 tag (.refused .noBlock []))) ∧
      ∀ (r : Pallet) (x : Block), s.record id.toNat = some r → r.block = some x →
        (x.lock = true → exec (.dispose tag id d) s = .next (s.answered 0x15 tag (.refused .locked []))) ∧
        (x.lock = false → ∃ verdict : Disposition,
          verdict = (if d = 0 then .good else if d = 1 then .suspect else .reject) ∧
          exec (.dispose tag id d) s =
            .next (State.answered 0x15 tag (.ok []) { s with prg := { s.prg with
              records := s.prg.records.map fun q => if q.id = id.toNat then
                { q with block := q.block.map fun y => { y with disposition := verdict } } else q } })))

/-- An append to a block that is there, unlocked and not logged at the station writes the entry, the disposition of
R30 and the lock of R31 in one write; otherwise nothing of the block changes (R29 to R31). -/
def Obligations.AppendWritesOnceOrNothing : Prop :=
  ∀ (s : State) (k program : Nat) (res : LogResult),
    (∀ (id : Nat) (x : Block), s.palletAt k = some id → s.blockAt k = some x → x.lock = false → x.logged k = false →
      (s.append k program res).2 = true ∧
      (s.append k program res).1.prg = { s.prg with records := s.prg.records.map fun q => if q.id = id then
        { q with block := q.block.map fun y => { y with
          log := y.log ++ [{ station := k, program := program, result := res }]
          disposition :=
            (match res, y.disposition with
            | .fail, _ => .reject
            | .timedOut, .good | .failed, .good | .interrupted, .good => .suspect
            | _, d => d)
          lock := y.lock || ((s.unit k).config.finalGauge && (res == .pass || res == .fail)) } } else q }) ∧
    ((s.blockAt k).all (fun x => x.lock || x.logged k) = true →
      (s.append k program res).2 = false ∧ (s.append k program res).1.prg = s.prg)

/-- The shift: slot contents one position on, slot 0 EMPTY, transit marks clear, the index count one on, the open-index
flag clear (R11, R13). The discharge comes before these, and the unload watch is judged on the register as they leave it
(R39); that the judgement comes after the step of the index count is the model's choice (log 69). -/
def Obligations.ShiftMovesTheMap : Prop :=
  ∀ s : State, s.prg.map ≠ [] →
    s.shift.slot 0 = .empty ∧ (∀ p, p + 1 < s.prg.map.length → s.shift.slot (p + 1) = s.slot p) ∧
    s.shift.prg.map.length = s.prg.map.length ∧ (∀ q ∈ s.shift.prg.records, q.transit = false) ∧
    s.shift.prg.indexCount = (s.prg.indexCount + 1) % 4294967296 ∧ s.shift.prg.openIndex = false ∧
    s.shift.rtb = s.rtb ∧ s.shift.stu = s.stu ∧ s.shift.sct = s.sct ∧ s.shift.mgn = s.mgn ∧ s.shift.cam = s.cam ∧
    s.shift.fdu = s.fdu ∧ s.shift.rgc = s.rgc ∧
    ∀ d : State, d = s.discharge →
      s.shift = State.judgeWatch { d with
        isq := { d.isq with shiftTaken := true }
        prg := { d.prg with
          map := Slot.empty :: d.prg.map.dropLast, records := d.prg.records.map fun q => { q with transit := false }
          indexCount := (d.prg.indexCount + 1) % 4294967296, openIndex := false } }

/-- The discharge at the shift: to the spur by the withdraw flag or the inspection limit, with the flag cleared, else to
the tail of the return queue; the count one up, saturating (R14). -/
def Obligations.DischargeByFlagOrLimit : Prop :=
  ∀ (s : State) (r : Pallet), s.unloadPallet = some r → ∃ n, n = min (r.cycles + 1) 9999999 ∧
    ((r.withdraw = true ∨ (s.prg.inspectionLimit ≠ 0 ∧ s.prg.inspectionLimit ≤ n)) →
      s.discharge.prg = { s.prg with
        records := s.prg.records.map fun q => if q.id = r.id then { r with cycles := n, withdraw := false } else q
        offline := insertAsc r.id s.prg.offline }) ∧
    (¬(r.withdraw = true ∨ (s.prg.inspectionLimit ≠ 0 ∧ s.prg.inspectionLimit ≤ n)) →
      s.discharge.prg = { s.prg with
        records := s.prg.records.map fun q => if q.id = r.id then { r with cycles := n } else q
        queue := s.prg.queue ++ [r.id] })

/-! ## The line (R47 to R54, R62, R64, R158 to R164) -/

/-- RUN: its refusals in their order. WRONG_STATE in a line state other than HELD and in HELD with a trial; with a seat check
failed MAP_MISMATCH with the failing positions, each with the checks it failed (R47), in the model's layout (log 14); then
NOT_HOME where the bar is not home, the lift not DOWN or the line node lost, DRIVE where the drive is not READY, NO_CAMS
where no bank is ACTIVE or ARMED (R46, R48, R113). In HELD with every check passed: the load hold is cleared, the line is
RUNNING in WAIT with a new wait, LINE STATE has reason RUN, and the conditions are judged in the event, the feed before
readiness (R47, R48, R53, R54, R143, R149). The order of the judgements (log 7), the LOAD STATE of the hold before LINE
STATE (log 8) and a LOAD STATE for the hold alone (log 29) are the model's choices and reading. What fails the seat check at
a position (R47). That LINE STATE is the only report of the start of WAIT, with no PHASE, is the model's reading (log
51). -/
def Obligations.RunEntersWait : Prop :=
  (∀ (s : State) (tag : Byte) (refused : Reason → Prop) (home : Prop), s.Free →
    (∀ why, refused why ↔ exec (.run tag) s = .next (s.answered 0x19 tag (.refused why []))) →
    (home ↔ s.mgn.commanded = 0 ∧ (∃ f, s.mgn.lastFeedback = some f ∧ f.natAbs ≤ s.mgn.settings.band) ∧
      s.sct.liftState = .down ∧ s.nodeLost 30 = false) →
    (s.isq.line ≠ .held ∨ s.cam.trial ≠ none → refused .wrongState) ∧
    (s.isq.line = .held → s.cam.trial = none →
      (s.seatCheck ≠ [] →
        exec (.run tag) s = .next (s.answered 0x19 tag (.refused .mapMismatch (seatDetail s.seatCheck)))) ∧
      (s.seatCheck = [] →
        (¬home → refused .notHome) ∧
        (home → s.mgn.drive ≠ .ready → refused .drive) ∧
        (home → s.mgn.drive = .ready → s.cam.bankA.state = .open_ → s.cam.bankB.state = .open_ → refused .noCams) ∧
        (home → s.mgn.drive = .ready → s.cam.bankA.state ≠ .open_ ∨ s.cam.bankB.state ≠ .open_ →
          ∃ u : State, u = s.setLoad s.fdu.state false ∧
            exec (.run tag) s =
              .next ((State.judge (State.report (.lineState .running (some .wait) .run)
                { u with isq := { u.isq with
                  line := .running, phase := some .wait, holdPending := false
                  waitTimer := some (u.isq.waitDelay * 1000) } })).answered 0x19 tag (.ok [])))))) ∧
  ∀ (s : State) (p : Nat) (l : List SeatCheck), (p, l) ∈ s.seatCheck ↔
    (∃ n, s.isq.stations = some n ∧ p ≤ n + 1) ∧ l ≠ [] ∧
    l = (if (¬(p = 0 ∧ (s.fdu.state = .feeding ∨ s.fdu.state = .seating ∨ s.fdu.state = .reading))) ∧
            ¬(s.slot p ≠ .empty ↔ (s.image p).present = true) then [.occupancy] else []) ++
        (if s.commandedSide (.locator p) = some .engage ∧ ((s.image p).locIn = false ∨ (s.image p).locOut = true) then
          [.locators] else []) ++
        (if 1 ≤ p ∧ p ≤ s.n ∧ (s.unit p).config.kind ≠ .idle ∧ s.palletAt p ≠ none ∧
            ((s.image p).clamped = false ∨ (s.image p).unclamped = true) then [.clamps] else []) ++
        (if s.nodeLost p = true then [.node] else [])

/-- HOLD is answered OK in every line state: in WAIT the line goes to HELD with reason HOLD, in another phase
hold-pending is set, elsewhere nothing happens (R49). -/
def Obligations.HoldByLineState : Prop :=
  ∀ (s : State) (tag : Byte), s.Free →
    (s.isq.line = .running → s.isq.phase = some .wait →
      exec (.hold tag) s =
        .next ((State.report (.lineState .held none .hold) { s with isq := { s.isq with
          line := .held, phase := none, holdPending := false, waitTimer := none } }).answered 0x1A tag (.ok []))) ∧
    (s.isq.line = .running → s.isq.phase ≠ some .wait →
      exec (.hold tag) s =
        .next (State.answered 0x1A tag (.ok []) { s with isq := { s.isq with holdPending := true } })) ∧
    (s.isq.line ≠ .running → exec (.hold tag) s = .next (s.answered 0x1A tag (.ok [])))

/-- STOP is answered OK in every line state: it halts an index with cause STOP and no positions, takes WAIT to HELD,
and has no effect in UNCONFIGURED, in HALTED, and in HELD without a trial. In HELD with a trial it quick-stops the trial's
stroke, which no point may fire in any more: a velocity above Q ramps down at the following ticks, one of Q or less ends
the trial in the event with STROKE END and the ending STOPPED, and a quick stop already running goes on (R51, R64, R123,
R125, R140). The halt of an index by any cause: a stroke in progress is quick-stopped, its plan gone and its stroke record
closed; a velocity above Q goes on as STOPPING from that velocity, with the record's motion STOPPING, one of Q or less, and
SETTLING, end at rest in the event with STROKE END and the record STILL; the record has the commanded position as its bar
(R64, R65, R123, R135, R154). Of RESTART the enable goes off, at the end of a quick stop where one runs (R127). Then the
valve work of the phase ends: its pending requests are withdrawn, the stagger wait is cancelled and an open movement of the
lift is ended and judged (R103, R104). LINE STATE with reason HALT and HALTED with the whole record come last (R64). A cause
is taken by the line state: it halts an index, joins a halt as a secondary cause or is dropped as the fourth, each with HALT
ADDED, and does nothing elsewhere (R64, R65). The model's choices: position, peak error and settle time in STROKE END
STOPPED as they stand (log 26), and STROKE END and LIFT UNKNOWN before the reports of ISQ, as the model orders the blocks
(log 8). -/
def Obligations.StopByLineState : Prop :=
  (∀ (s : State) (tag : Byte), s.Free →
    (∀ ph : Phase, s.isq.line = .running → s.isq.phase = some ph → ph ≠ .wait →
      exec (.stop tag) s = .next ((s.enterHalted .stop []).answered 0x1B tag (.ok [])) ∧
      ∃ t r, exec (.stop tag) s = .next t ∧ t.isq.line = .halted ∧ t.isq.phase = none ∧ t.isq.holdPending = true ∧
        t.isq.haltRecord = some r ∧ r.cause = .stop ∧ r.phase = ph ∧ r.positions = [] ∧ r.secondary = [] ∧
        r.indexCount = s.prg.indexCount ∧ t.isq.haltCount = min (s.isq.haltCount + 1) 255 ∧
        t.sct.command = none ∧ t.sct.movement = none ∧ t.sct.clampWait = none ∧ t.prg = s.prg ∧ t.rtb = s.rtb ∧
        t.stu = s.stu ∧ t.fdu = s.fdu ∧ t.rgc = s.rgc ∧ t.cam.aux = s.cam.aux ∧
        r.bar = s.mgn.commanded ∧ t.mgn.commanded = s.mgn.commanded ∧ t.mgn.enable = s.mgn.enable ∧
        (s.mgn.motion = .atRest → r.stopping = false ∧ t.mgn = s.mgn ∧ t.cam = s.cam) ∧
        (∀ p : Plan, s.mgn.motion = .moving → s.mgn.plan = some p → s.mgn.settings.quickStop < s.mgn.velocity →
          r.stopping = true ∧ t.cam = { s.cam with stroke := none } ∧
          t.mgn = { s.mgn with
            plan := none, settleTimer := none, motion := .stopping
            quick := some { direction := p.direction, ticks := 0, enableOff := false, trial := none } }) ∧
        (∀ p : Plan, s.mgn.plan = some p →
          (s.mgn.motion = .moving ∧ s.mgn.velocity ≤ s.mgn.settings.quickStop) ∨ s.mgn.motion = .settling →
          r.stopping = false ∧ t.cam = { s.cam with stroke := none } ∧
          t.mgn = { s.mgn with
            plan := none, settleTimer := none, motion := .atRest, velocity := 0, quick := none }) ∧
        (t.clu.replySlot.map Reply.answer) = some (.ok [])) ∧
    (s.isq.line = .running → s.isq.phase = some .wait →
      exec (.stop tag) s =
        .next ((State.report (.lineState .held none .stop) { s with isq := { s.isq with
          line := .held, phase := none, holdPending := false, waitTimer := none } }).answered 0x1B tag (.ok []))) ∧
    (s.isq.line = .unconfigured ∨ s.isq.line = .halted ∨ (s.isq.line = .held ∧ s.cam.trial = none) →
      exec (.stop tag) s = .next (s.answered 0x1B tag (.ok []))) ∧
    (s.isq.line = .held → s.cam.trial ≠ none →
      (s.mgn.motion = .stopping → exec (.stop tag) s = .next (s.answered 0x1B tag (.ok []))) ∧
      ∀ (p : Plan) (t : State), s.mgn.motion = .trial → s.mgn.plan = some p →
        t = { s with cam := { s.cam with stroke := none }, mgn := { s.mgn with plan := none, settleTimer := none } } →
        (s.mgn.settings.quickStop < s.mgn.velocity →
          exec (.stop tag) s =
            .next (State.answered 0x1B tag (.ok []) { t with mgn := { t.mgn with
              motion := .stopping
              quick := some { direction := p.direction, ticks := 0, enableOff := false, trial := some .stopped } } })) ∧
        (s.mgn.velocity ≤ s.mgn.settings.quickStop →
          exec (.stop tag) s =
            .next (State.answered 0x1B tag (.ok []) (State.endTrial .stopped
              (State.report
                (.strokeEnd p.direction .stopped 0 s.mgn.commanded s.mgn.lastFeedback s.mgn.settleTime s.mgn.peakError)
                { t with mgn := { t.mgn with motion := .atRest, velocity := 0, quick := none } })))))) ∧
  (∀ (s : State) (c : Cause) (l : List Nat),
    (∀ ph, s.isq.line = .running → s.isq.phase = some ph →
      s.raiseCause c l = if ph = .wait then s else s.enterHalted c l) ∧
    (s.isq.line = .halted → s.raiseCause c l = s.addCause c l) ∧
    (s.isq.line = .held ∨ s.isq.line = .unconfigured → s.raiseCause c l = s) ∧
    (∀ r : HaltRecord, s.isq.haltRecord = some r →
      (r.secondary.length < 3 →
        s.addCause c l = State.report (.haltAdded c l true) { s with isq := { s.isq with
          haltRecord := some { r with secondary := r.secondary ++ [(c, l)] } } }) ∧
      (3 ≤ r.secondary.length → s.addCause c l = s.report (.haltAdded c l false))) ∧
    (∀ (ph : Phase) (halt : Bool → State → State), s.isq.phase = some ph →
      (∀ (stopping : Bool) (m z : State) (r : HaltRecord), z = m.endPhaseWork →
        r = { cause := c, phase := ph, bar := s.mgn.commanded, stopping := stopping, positions := l, secondary := []
              indexCount := s.prg.indexCount } →
        halt stopping m = State.report (.halted r) (State.report (.lineState .halted none .halt) { z with
          isq := { s.isq with
            line := .halted, phase := none, holdPending := true, waitTimer := none, haltRecord := some r
            haltCount := min (s.isq.haltCount + 1) 255 } })) →
      (s.mgn.motion = .atRest →
        s.enterHalted c l =
          halt false (if c = .restart then { s with mgn := { s.mgn with enable := false } } else s)) ∧
      (s.mgn.motion = .stopping →
        s.enterHalted c l = halt true (if c = .restart then { s with mgn := { s.mgn with
          quick := s.mgn.quick.map fun q => { q with enableOff := true } } } else s)) ∧
      (∀ (p : Plan) (v : Nat) (t : State), s.mgn.motion = .moving ∨ s.mgn.motion = .settling → s.mgn.plan = some p →
        v = (if s.mgn.motion = .settling then 0 else s.mgn.velocity) →
        t = { s with cam := { s.cam with stroke := none }, mgn := { s.mgn with plan := none, settleTimer := none } } →
        (s.mgn.settings.quickStop < v →
          s.enterHalted c l = halt true { t with mgn := { t.mgn with
            motion := .stopping
            quick := some
              { direction := p.direction, ticks := 0, enableOff := decide (c = .restart), trial := none } } }) ∧
        (v ≤ s.mgn.settings.quickStop →
          s.enterHalted c l = halt false (State.report
            (.strokeEnd p.direction .stopped 0 s.mgn.commanded s.mgn.lastFeedback s.mgn.settleTime s.mgn.peakError)
            { t with mgn := { t.mgn with
              motion := .atRest, velocity := 0, quick := none
              enable := if c = .restart then false else s.mgn.enable } }))))) ∧
  ∀ (s u : State) (drop : Requester → Channel → Channel) (off : Requester → State → State),
    (∀ w ch, (ch.pending = none → drop w ch = ch) ∧
      ∀ x, ch.pending = some x →
        (x.requesters.filter (· ≠ w) = [] → drop w ch = { ch with pending := none }) ∧
        (x.requesters.filter (· ≠ w) ≠ [] →
          drop w ch = { ch with pending := some { x with requesters := x.requesters.filter (· ≠ w) } })) →
    (∀ w x, off w x = { x with sct := { x.sct with
      locators := x.sct.locators.map (drop w), clamps := x.sct.clamps.map (drop w), lift := drop w x.sct.lift } }) →
    (s.sct.command = none → u = { s with sct := { s.sct with clampWait := none } }) →
    (∀ k : PhaseCommand, s.sct.command = some k →
      u = off (.phase k.phase) { s with sct := { s.sct with command := none, clampWait := none } }) →
    (s.sct.movement = none → s.endPhaseWork = u) ∧
    ∀ (m : Movement) (y : State) (x : LiftState), s.sct.movement = some m →
      y = off .lift { u with sct := { u.sct with movement := none } } →
      x = (match s.lineImage.liftUp, s.lineImage.liftDown with
        | true, false => .up | false, true => .down | _, _ => .unknown) →
      s.endPhaseWork =
        if x = .unknown ∧ s.sct.liftState ≠ .unknown then
          State.report (.liftUnknown s.lineImage.liftUp s.lineImage.liftDown none)
            { y with sct := { y.sct with liftState := .unknown } }
        else { y with sct := { y.sct with liftState := x } }

/-- RECOVER. Its refusals in their order (R158). With every check passed the reply is ACCEPTED with the phases of Table 9-2,
numbered as R43 lists them (log 55); the course is set, the index is marked as recovered, the line is RUNNING in the first
phase with LINE STATE reason RECOVER, that phase starts, and the feed, which the new phase may permit, is judged (R62, R143,
R159, R160; the judgement within the event is log 7). A halt in ADVANCE is recovered by a stroke to S or to 0 without an
ADVANCE start, a halt in RETURN by the RETURN stroke. From RELEASE, FORWARD releases again and BACKWARD clamps again, each
over the occupied clamp stations with a full timeout. -/
def Obligations.RecoverRunsThePhases : Prop :=
  ∀ (s : State) (tag : Byte), s.Free →
    (s.isq.line ≠ .halted →
      exec (.recoverForward tag) s = .next (s.answered 0x1C tag (.refused .notHalted [])) ∧
        exec (.recoverBackward tag) s = .next (s.answered 0x1C tag (.refused .notHalted []))) ∧
    ∀ (r : HaltRecord) (away : List Nat) (no : List Byte → Host.Outcome State Fault Refusal), s.isq.line = .halted →
      s.isq.haltRecord = some r →
      away = s.stationList.filter (fun k => (s.unit k).config.kind ≠ .idle ∧ (s.image k).home = false) →
      (∀ detail, no detail = .next (s.answered 0x1C tag (.refused .wrongState detail))) →
      (∀ (d : Course) (c : Instr), c = (match d with | .forward => .recoverForward tag | .backward => .recoverBackward tag) →
        (r.stopping = true → exec c s = no []) ∧
        (r.stopping = false →
          (d = .backward → r.phase ∉ [.release, .withdraw, .lift, .advance] →
            exec c s = .next (s.answered 0x1C tag (.refused .direction []))) ∧
          (d = .forward ∨ r.phase ∈ [.release, .withdraw, .lift, .advance] →
            (s.mgn.drive ≠ .ready → exec c s = .next (s.answered 0x1C tag (.refused .drive []))) ∧
            (s.mgn.drive = .ready →
              (s.nodeLost 30 = true ∨ (∃ p ∈ s.positionList, s.nodeLost p = true) → exec c s = no []) ∧
              (s.nodeLost 30 = false → (∀ p ∈ s.positionList, s.nodeLost p = false) →
                (r.phase ∈ [.release, .withdraw, .lift, .advance, .lower] → away ≠ [] →
                  exec c s = no (BitVec.ofNat 8 away.length :: away.map (BitVec.ofNat 8))) ∧
                (r.phase ∉ [.release, .withdraw, .lift, .advance, .lower] ∨ away = [] →
                  ((r.phase = .advance ∧ s.sct.liftState ≠ .up) ∨
                      (r.phase ∈ [.release, .withdraw, .locate, .clamp, .verify, .returning] ∧ s.sct.liftState ≠ .down) →
                    exec c s = no []) ∧
                  (r.phase = .advance → s.sct.liftState = .up → d = .forward →
                    ¬(s.isq.released = true ∧ s.isq.withdrawn = true ∧ s.isq.lifted = true) → exec c s = no []))))))) ∧
      (r.stopping = false → s.mgn.drive = .ready → s.nodeLost 30 = false →
        (∀ p ∈ s.positionList, s.nodeLost p = false) →
        (r.phase ∈ [.release, .withdraw, .lift, .advance, .lower] → away = []) →
        (r.phase = .advance → s.sct.liftState = .up) →
        (r.phase ∈ [.release, .withdraw, .locate, .clamp, .verify, .returning] → s.sct.liftState = .down) →
        (∀ (l : List Phase) (ph : Phase) (course : Course) (u t : State) (k : State × Bool),
          (r.phase = .advance → s.isq.released = true ∧ s.isq.withdrawn = true ∧ s.isq.lifted = true) →
          course = (if r.phase = .advance then .forward else s.isq.course) →
          l = (if r.phase = .returning then [.returning] else
            (if r.phase = .verify ∧ s.isq.seatEdit = true then [.clamp, .verify] else
              ([.release, .withdraw, .lift, .advance, .lower, .locate, .clamp, .verify] : List Phase).dropWhile
                (· ≠ r.phase)) ++ (if course = .forward then [.returning] else [])) →
          r.phase ≠ .wait → l.head? = some ph →
          u = State.report (.lineState .running (some ph) .recover) { s with isq := { s.isq with
            line := .running, phase := some ph, course := course, recovered := true, seatEdit := false } } →
          k = (u.report (.phase .advance s.prg.indexCount)).askStroke .advance s.mgn.settings.stroke →
          t = (match ph with
            | .release => u.startRelease | .withdraw => u.startWithdraw | .lift => u.startLift
            | .advance => if k.2 = true then k.1.strokeDone else k.1
            | .lower => u.startLower | .locate => u.startLocate | .clamp => u.startClamp | .verify => u.startVerify
            | .returning => u.startReturn | .wait => u) →
          exec (.recoverForward tag) s =
            .next (t.judgeFeed.answered 0x1C tag
              (.accepted (BitVec.ofNat 8 l.length :: l.map fun p => BitVec.ofNat 8 p.code)))) ∧
        (∀ (l : List Phase) (ph : Phase) (u t : State) (k : State × Bool),
          (r.phase = .release ∧ l = [.clamp, .verify] ∨ r.phase = .withdraw ∧ l = [.locate, .clamp, .verify] ∨
            r.phase = .lift ∧ l = [.lower, .locate, .clamp, .verify] ∨
            r.phase = .advance ∧ l = [.advance, .lower, .locate, .clamp, .verify]) → l.head? = some ph →
          u = State.report (.lineState .running (some ph) .recover) { s with isq := { s.isq with
            line := .running, phase := some ph, course := .backward, recovered := true, seatEdit := false } } →
          k = (u.report (.phase .advance s.prg.indexCount)).askStroke .returning 0 →
          t = (match r.phase with
            | .release => u.startClamp | .withdraw => u.startLocate | .lift => u.startLower
            | _ => if k.2 = true then k.1.strokeDone else k.1) →
          exec (.recoverBackward tag) s =
            .next (t.judgeFeed.answered 0x1C tag
              (.accepted (BitVec.ofNat 8 l.length :: l.map fun p => BitVec.ofNat 8 p.code)))) ∧
        (r.phase = .release → (∃ k ∈ s.occupiedStations, s.endsWith .release k = false) →
          ∃ t, exec (.recoverForward tag) s = .next t ∧
            t.isq = { s.isq with line := .running, phase := some .release, recovered := true, seatEdit := false } ∧
            t.sct.command =
              some { phase := .release, positions := s.occupiedStations, timer := s.sct.settings.release } ∧
            t.sct.held = false ∧ t.sct.clampWait = none ∧ t.prg = s.prg ∧ t.rtb = s.rtb ∧ t.mgn = s.mgn ∧
            t.cam = s.cam ∧ t.fdu = s.fdu ∧ t.rgc = s.rgc ∧ t.stu = s.stu.map (fun u => { u with clampWatch := false })) ∧
        (r.phase = .release → (∃ k ∈ s.occupiedStations, s.endsWith .clamp k = false) →
          (s.fdu.state ≠ .ready → s.prg.disagreement = none) →
          ∃ t, exec (.recoverBackward tag) s = .next t ∧ t.isq.line = .running ∧ t.isq.phase = some .clamp ∧
            t.isq.course = .backward ∧ t.isq.recovered = true ∧ t.isq.seatEdit = false ∧
            t.sct.command = some { phase := .clamp, positions := s.occupiedStations, timer := s.sct.settings.clamp } ∧
            t.prg = s.prg ∧ t.rtb = s.rtb ∧ t.mgn = s.mgn ∧ t.cam = s.cam ∧ t.stu = s.stu ∧ t.rgc = s.rgc))

/-- RESTART is answered OK in every line state: HELD and UNCONFIGURED stay, WAIT goes to HELD, an index halts, a halt
stays; of the register the map, the queue, the offline set, the counts, C, the inspection limit, the unload watch and
every record are kept, a record's block in its serial and variant (its log and disposition may take INTERRUPTED, R93); the
routes, the ring and the report mask are kept; at every station START goes off, both stages stop and a re-clamp is
cancelled; the phase work, the re-clamps, the held interval and the auxiliary outputs are off, the enable goes off with the
bar at rest, and the following-error count is 0 (R25, R32, R68, R93, R111, R127, R138, R164). The units 1..N take it after
the line and before the feed, each by the rows of R93: VACANT, COMPLETE and ABANDONING stay; an operation in hand, in
WORKING, LATE or a fault with resume OPERATION, is appended INTERRUPTED at once with its program, and ABANDONING follows
with no pending result, which HOME on ends at once; a fault with resume VACANT or COMPLETE goes there, with resume DECISION
to the decision of R76 with INTERRUPTED in place of a start, with resume ABANDON to ABANDONING with its pending result, and
STATION CLEARED with action RESTART follows; last a LEVEL-mode unit with FLT on faults again (R82, R84, R93). The requests
that wait behind it are discarded, the BUSY list stays, and RESET with cause RESTART heads the report queue (R165). In
HALTED RESTART is a secondary cause, dropped as the fourth, with HALT ADDED (R65). A feed in hand is aborted with FEED
ABORTED, the load hold as it was; the other position-0 states stay (R153). The order of the blocks' work (log 30), the
order of the units, ascending, each doing its whole RESTART work, its new LEVEL-mode fault included, before the next (log
8), FEED ABORTED after LOAD STATE (log 58), the taken flag of an INTERRUPTED operation's end (log 28) and the order of a
unit's reports (log 75) are the model's choices. -/
def Obligations.RestartKeepsTheRegisterAndEndsTheWork : Prop :=
  (∀ (s : State) (tag : Byte), s.Free →
    ∃ t, exec (.restart tag) s = .next t ∧ (t.clu.replySlot.map Reply.answer) = some (.ok []) ∧
      (s.isq.line = .unconfigured → t.isq.line = .unconfigured) ∧ (s.isq.line = .held → t.isq.line = .held) ∧
      (s.isq.line = .halted → t.isq.line = .halted) ∧
      (s.isq.line = .running → s.isq.phase = some .wait → t.isq.line = .held) ∧
      (∀ ph : Phase, s.isq.line = .running → s.isq.phase = some ph → ph ≠ .wait → t.isq.line = .halted) ∧
      t.prg.map = s.prg.map ∧ t.prg.queue = s.prg.queue ∧ t.prg.offline = s.prg.offline ∧
      t.prg.indexCount = s.prg.indexCount ∧ t.prg.openIndex = s.prg.openIndex ∧ t.prg.capacity = s.prg.capacity ∧
      t.prg.inspectionLimit = s.prg.inspectionLimit ∧ t.prg.watch = s.prg.watch ∧
      (t.prg.records.map fun r => { r with block := none }) = (s.prg.records.map fun r => { r with block := none }) ∧
      (t.prg.records.map fun r => r.block.map fun x => (x.serial, x.variant)) =
        (s.prg.records.map fun r => r.block.map fun x => (x.serial, x.variant)) ∧
      t.rtb = s.rtb ∧ t.rgc = s.rgc ∧ t.timeBase = s.timeBase ∧ t.clu.eventOn = s.clu.eventOn ∧
      t.clu.traceOn = s.clu.traceOn ∧ t.clu.counts = s.clu.counts ∧
      (∀ k, 1 ≤ k → k ≤ s.n → (t.unit k).config = (s.unit k).config ∧ (t.unit k).inService = (s.unit k).inService ∧
        (t.unit k).clampWatch = (s.unit k).clampWatch ∧ (t.unit k).start = false ∧ (t.unit k).restartWait = false ∧
        (t.unit k).stage1 = none ∧ (t.unit k).stage2 = none ∧ ∀ f, (t.unit k).fault = some f → f.reclamp = false) ∧
      t.sct.command = none ∧ t.sct.clampWait = none ∧ t.sct.held = false ∧
      (∀ x ∈ t.sct.requests, x.id = .seatLoad ∨ x.id = .releaseLoad) ∧
      (s.mgn.motion = .atRest → t.mgn.enable = false) ∧ t.mgn.errorCount = 0 ∧ t.cam.aux = List.replicate 8 false ∧
      t.clu.requestQueue = [] ∧ t.clu.busyList = s.clu.busyList ∧
      t.clu.reports.head? =
        some { report := .reset .restart s.clu.rate, time := s.timeBase, indexCount := s.prg.indexCount } ∧
      (∀ r : HaltRecord, s.isq.line = .halted → s.isq.haltRecord = some r →
        t.isq.haltRecord = some { r with
          secondary := if r.secondary.length < 3 then r.secondary ++ [(.restart, [])] else r.secondary } ∧
        ∃ q ∈ t.clu.reports, q.report = .haltAdded .restart [] (decide (r.secondary.length < 3))) ∧
      (∃ w x y : State, w.stu = s.stu ∧ w.prg = s.prg ∧ w.rtb = s.rtb ∧ w.rgc = s.rgc ∧ w.fdu = s.fdu ∧
        w.timeBase = s.timeBase ∧ w.isq.stations = s.isq.stations ∧
        x = ((List.range s.n).map (· + 1)).foldl (fun v k => v.unitRestart k) w ∧
        x.fdu = s.fdu ∧ x.prg.queue = s.prg.queue ∧ x.prg.map = s.prg.map ∧ x.rgc = s.rgc ∧
        y = (if s.fdu.state = .feeding ∨ s.fdu.state = .seating ∨ s.fdu.state = .reading then
            State.report
              (.feedAborted
                (if s.fdu.state = .seating then .seating else if s.fdu.state = .reading then .read
                  else if s.fdu.gate then .arrival else .locator)
                s.fdu.expected)
              (State.toLoad .empty x.endFeed)
          else x) ∧
        t = State.answered 0x20 tag (.ok [])
          (State.judgeFeed { y with cam := { y.cam with aux := List.replicate 8 false } })) ∧
      (s.fdu.state = .awaitingBlock ∨ s.fdu.state = .ready ∨ s.fdu.state = .foreign → t.fdu = s.fdu) ∧
      ((s.image 0).present = false → s.prg.queue = [] ∨ s.lineImage.head = false →
        (s.fdu.state = .empty → t.fdu = s.fdu) ∧
        (s.fdu.state = .feeding ∨ s.fdu.state = .seating ∨ s.fdu.state = .reading →
          t.fdu = { s.fdu with
            state := .empty, gate := false, read := false, feedTimer := none, readTimer := none, expected := none
            mode := none, loadWait := none }))) ∧
  (∀ (s : State) (tag : Byte) (r : Reply) (rest : List Frame), s.inReset = false → s.clu.transmitting.isSome = true →
    s.clu.replySlot = some r → s.clu.busyList = [] → s.clu.requestQueue = Request.restart.frame tag :: rest →
    ∃ t, exec .transmitDone s = .next t ∧ t.clu.requestQueue = [] ∧
      t.clu.replySlot = some { kind := 0x20, tag := tag, answer := .ok [] } ∧
      t.clu.reports.head? =
        some { report := .reset .restart s.clu.rate, time := s.timeBase, indexCount := s.prg.indexCount }) ∧
  (∀ (s q : State) (k : Nat) (u : StationUnit) (ends : State → Prop) (cleared : FaultRecord → State → Prop), 1 ≤ k →
    u = s.unit k →
    q = (s.modUnit k fun v => { v with
      start := false, restartWait := false, stage1 := none, stage2 := none
      fault := v.fault.map fun f => { f with reclamp := false } }) →
    (∀ y : State, ends y ↔ s.unitRestart k =
      if u.config.kind ≠ .idle ∧ u.config.faultMode = .level ∧ (s.image k).flt = true ∧ (y.unit k).state ≠ .faulted then
        y.unitFault k .fltInput
      else y) →
    (∀ f y, cleared f y ↔ ends (y.report (.stationCleared k .restart f.cause (y.unit k).state))) →
    (u.state = .vacant ∨ u.state = .complete ∨ u.state = .abandoning → ends q) ∧
    (∀ (o : Operation) (c e : State) (taken : Bool) (done : State → Prop), u.operation = some o →
      ((u.state = .working ∨ u.state = .late) ∧ c = q ∧ done = ends) ∨
        (∃ f, u.state = .faulted ∧ u.fault = some f ∧ f.resume = .operation ∧
          c = (q.modUnit k fun v => { v with fault := none }) ∧ done = cleared f) →
      taken = (c.append k o.program .interrupted).2 →
      e = ((c.append k o.program .interrupted).1.modUnit k fun v => { v with
        state := .abandoning, operation := some { o with result := none, interruptTaken := taken } }) →
      ((s.image k).home = false → done e) ∧
      ((s.image k).home = true →
        done ((e.report (.operationEnd k o.pallet o.program .interrupted
            ((s.timeBase + 4294967296 - o.start) % 4294967296) taken)).modUnit k fun v => { v with
          state := .complete, operation := none }))) ∧
    (∀ f, u.state = .faulted → u.fault = some f →
      (f.resume = .vacant → cleared f (q.modUnit k fun v => { v with fault := none, state := .vacant })) ∧
      (f.resume = .complete → cleared f (q.modUnit k fun v => { v with fault := none, state := .complete })) ∧
      (f.resume = .decision → cleared f ((q.modUnit k fun v => { v with fault := none }).decide k .interrupted)) ∧
      (∀ (o : Operation) (e : State), f.resume = .abandon → u.operation = some o →
        e = (q.modUnit k fun v => { v with fault := none, state := .abandoning }) →
        ((s.image k).home = false → cleared f e) ∧
        ((s.image k).home = true → ∃ v : State,
          (∀ r, o.result = some r →
            v = (e.append k o.program r).1.report (.operationEnd k o.pallet o.program r
              ((s.timeBase + 4294967296 - o.start) % 4294967296) (e.append k o.program r).2)) ∧
          (o.result = none →
            v = e.report (.operationEnd k o.pallet o.program .interrupted
              ((s.timeBase + 4294967296 - o.start) % 4294967296) o.interruptTaken)) ∧
          cleared f (v.modUnit k fun z => { z with state := .complete, operation := none }))))) ∧
  ∀ (s : State) (k : Nat) (starts : Block → Prop),
    (∀ x, starts x ↔ (s.unit k).config.kind ≠ .idle ∧ s.palletAt k ≠ none ∧ s.blockAt k = some x ∧
      s.program x.variant k ≠ 0 ∧ x.lock = false ∧ x.logged k = false ∧ x.disposition ≠ .reject ∧
      (s.unit k).inService = true) →
    ((∀ x, ¬starts x) → s.decide k .interrupted = s.decide k .start) ∧
    ∀ x, starts x →
      s.decide k .interrupted =
        (s.append k (s.program x.variant k) .interrupted).1.modUnit k fun v => { v with state := .complete }

/-- The feed permit of each line state and phase (R62). -/
def Obligations.FeedPermitByLineState : Prop :=
  ∀ s : State,
    (s.isq.line = .unconfigured → s.feedPermit = false) ∧ (s.isq.line = .held → s.feedPermit = true) ∧
    (∀ ph, s.isq.line = .running → s.isq.phase = some ph →
      (s.feedPermit = true ↔ ph = .wait ∨ ph = .locate ∨ ph = .clamp ∨ ph = .verify ∨ ph = .returning)) ∧
    (∀ r, s.isq.line = .halted → s.isq.haltRecord = some r → r.phase ≠ .wait →
      (s.feedPermit = true ↔ r.phase = .locate ∨ r.phase = .clamp ∨ r.phase = .verify ∨ r.phase = .returning))

/-- INDEX_START with the six conditions true opens the index with RELEASE: the wait ends, the three marks and the
counts of the index are cleared, the open-index flag is set, the clamp watches are cleared, and RELEASE is asked of the
occupied clamp stations; with a condition false it is without effect. The wait timer's expiry in WAIT queues one
WAITING report of the false conditions and stops the timer; a count that has not run out expires nothing (R52, R54, R56,
R57, R86, R99, R159). What makes a condition false, and the detail it is listed with (R9, R14, R46, R52, R54). Readiness
judged again at INDEX_START, the wait timer's count at 0, and which of two details of condition 2 or 3 is given are the
model's choices (logs 1, 7, 25). -/
def Obligations.IndexStartOpensTheIndex : Prop :=
  (∀ s : State, s.Calm →
    (s.ready = true → s.occupiedStations.all (s.endsWith .release) = false →
      ∃ t, exec .indexStart s = .next t ∧
        t.isq = { s.isq with
          phase := some .release, waitTimer := none, released := false, withdrawn := false, lifted := false
          course := .forward, seatEdit := false, haltCount := 0, recovered := false, indexStart := s.timeBase
          shiftTaken := false } ∧
        t.prg = { s.prg with openIndex := true } ∧
        t.sct.command =
          some { phase := .release, positions := s.occupiedStations, timer := s.sct.settings.release } ∧
        t.stu = s.stu.map (fun u => { u with clampWatch := false }) ∧ t.rtb = s.rtb ∧ t.mgn = s.mgn ∧
        t.cam = s.cam ∧ t.fdu = s.fdu ∧ t.rgc = s.rgc) ∧
    (s.ready = false → exec .indexStart s = .next s.flushOverflow) ∧
    (s.inWait = true → s.isq.waitTimer = some 0 →
      exec .waiting s =
        .next ((State.report (.waiting s.falseConditions)
          { s with isq := { s.isq with waitTimer := none } }).flushOverflow)) ∧
    (s.isq.waitTimer ≠ some 0 → exec .waiting s = .next s.flushOverflow)) ∧
  ∀ s : State,
    (s.ready = true ↔
      s.isq.line = .running ∧ s.isq.phase = some .wait ∧ s.isq.holdPending = false ∧ s.falseConditions = []) ∧
    s.falseConditions =
      (if ∀ k ∈ s.stationList, (s.unit k).state = .vacant ∨ (s.unit k).state = .complete then [] else
        [.stations ((s.stationList.filter fun k => (s.unit k).state ≠ .vacant ∧ (s.unit k).state ≠ .complete).map
          fun k => (k, (s.unit k).state))]) ++
      (if s.nodeLost 0 = false ∧ ((s.fdu.state = .ready ∧ s.prg.disagreement = none) ∨
          (s.fdu.state = .empty ∧ s.prg.queue = [])) then [] else
        [.load (if s.nodeLost 0 = true then .nodeLost else
          match s.prg.disagreement with | some d => .disagreement d | none => .state s.fdu.state)]) ++
      (if s.prg.watch = .idle ∧ s.nodeLost (s.n + 1) = false then [] else
        [.unload (s.n + 1) (if s.nodeLost (s.n + 1) = true then .nodeLost else .watch s.prg.watch)]) ++
      (if s.palletAt (s.n + 1) = none ∨ (s.unloadDiverts = true ∧ s.lineImage.spurClear = true ∧ s.nodeLost 30 = false) ∨
          (s.unloadDiverts = false ∧ s.prg.queue.length < s.prg.capacity) then [] else
        [.room (s.n + 1) s.unloadDiverts]) ++
      (if s.barHome = true ∧ s.sct.liftState = .down ∧ s.mgn.drive = .ready ∧ s.nodeLost 30 = false then [] else
        [.bar ((if s.barHome = true then [] else [.notHome]) ++ (if s.sct.liftState = .down then [] else [.liftNotDown]) ++
          (if s.mgn.drive = .ready then [] else [.driveNotReady]) ++
          (if s.nodeLost 30 = false then [] else [.lineNodeLost]))]) ++
      (if s.cam.bankA.state = .active ∨ s.cam.bankA.state = .armed ∨ s.cam.bankB.state = .active ∨
          s.cam.bankB.state = .armed then [] else [.cams]) ∧
    (s.barHome = true ↔ s.mgn.commanded = 0 ∧ ∃ f, s.mgn.lastFeedback = some f ∧ f.natAbs ≤ s.mgn.settings.band) ∧
    (s.unloadDiverts = true ↔ ∃ r, s.unloadPallet = some r ∧ (r.withdraw = true ∨
      (s.prg.inspectionLimit ≠ 0 ∧ s.prg.inspectionLimit ≤ min (r.cycles + 1) 9999999)))

/-- The three timers whose expiry halts an index: the phase timer gives PHASE_TIMEOUT with the positions that do not
meet the end condition, the lift timer PHASE_TIMEOUT with none, the settle timer SETTLE with the stroke ended at rest
(R64, R99, R102, R121, R123). A timer
expires with its count at 0: the model's choice (log 1). -/
def Obligations.TimeoutsHaltTheIndex : Prop :=
  ∀ s : State, s.Calm → s.isq.line = .running →
    (∀ c : PhaseCommand, s.sct.command = some c → c.timer = 0 → s.isq.phase = some c.phase → c.phase ≠ .wait →
      ∃ t r, exec .phaseTimeout s = .next t ∧ t.isq.line = .halted ∧ t.isq.haltRecord = some r ∧
        r.cause = .phaseTimeout ∧ r.phase = c.phase ∧
        r.positions = c.positions.filter (fun p => !(s.endsWith c.phase p)) ∧ t.sct.command = none ∧ t.prg = s.prg ∧
        t.rtb = s.rtb ∧ t.stu = s.stu ∧ t.fdu = s.fdu ∧ t.rgc = s.rgc) ∧
    (∀ m : Movement, s.sct.movement = some m → m.timer = 0 → s.isq.phase = some m.move.phase →
      ∃ t r, exec .liftTimeout s = .next t ∧ t.isq.line = .halted ∧ t.isq.haltRecord = some r ∧
        r.cause = .phaseTimeout ∧ r.phase = m.move.phase ∧ r.positions = [] ∧ t.sct.movement = none ∧ t.prg = s.prg ∧
        t.rtb = s.rtb ∧ t.stu = s.stu ∧ t.fdu = s.fdu ∧ t.rgc = s.rgc) ∧
    (∀ (ph : Phase) (p : Plan), s.mgn.motion = .settling → s.mgn.settleTimer = some 0 → s.mgn.plan = some p →
      s.isq.phase = some ph → ph ≠ .wait →
      ∃ t r, exec .settleTimeout s = .next t ∧ t.isq.line = .halted ∧ t.isq.haltRecord = some r ∧ r.cause = .settle ∧
        r.phase = ph ∧ r.positions = [] ∧ r.stopping = false ∧ r.bar = s.mgn.commanded ∧ t.mgn.motion = .atRest ∧
        t.mgn.plan = none ∧ t.mgn.settleTimer = none ∧ t.mgn.enable = s.mgn.enable ∧
        t.mgn.commanded = s.mgn.commanded ∧ t.cam.stroke = none ∧ t.prg = s.prg ∧ t.rtb = s.rtb ∧ t.stu = s.stu ∧
        t.fdu = s.fdu ∧ t.rgc = s.rgc)

/-! ## The stations (R76, R80, R81, R83, R88 to R91) -/

/-- STATION OUT and STATION IN set the in-service flag and report a change of it; a flag already there changes nothing;
WRONG_STATE in UNCONFIGURED, BAD_FIELD outside 1..N (R91). -/
def Obligations.StationServiceSetsTheFlag : Prop :=
  ∀ (s : State) (tag k : Byte), s.Free →
    (s.isq.line = .unconfigured →
      exec (.stationOut tag k) s = .next (s.answered 0x16 tag (.refused .wrongState [])) ∧
        exec (.stationIn tag k) s = .next (s.answered 0x17 tag (.refused .wrongState []))) ∧
    (s.isq.line ≠ .unconfigured → ¬(1 ≤ k.toNat ∧ k.toNat ≤ s.n) →
      exec (.stationOut tag k) s = .next (s.answered 0x16 tag (.refused .badField [])) ∧
        exec (.stationIn tag k) s = .next (s.answered 0x17 tag (.refused .badField []))) ∧
    (s.isq.line ≠ .unconfigured → 1 ≤ k.toNat → k.toNat ≤ s.n → (s.unit k.toNat).inService = true →
      exec (.stationIn tag k) s = .next (s.answered 0x17 tag (.ok [])) ∧
        exec (.stationOut tag k) s =
          .next (((s.modUnit k.toNat fun u => { u with inService := false }).report
            (.stationService k.toNat false)).answered 0x16 tag (.ok []))) ∧
    (s.isq.line ≠ .unconfigured → 1 ≤ k.toNat → k.toNat ≤ s.n → (s.unit k.toNat).inService = false →
      exec (.stationOut tag k) s = .next (s.answered 0x16 tag (.ok [])) ∧
        exec (.stationIn tag k) s =
          .next (((s.modUnit k.toNat fun u => { u with inService := true }).report
            (.stationService k.toNat true)).answered 0x17 tag (.ok [])))

/-- FAULT CLEAR, both actions. The checks of R88 in their order; check 6 whatever the kind of the station is the
model's choice (log 52). RETRY after a lost clamp with a pallet asks for the re-clamp and is ACCEPTED, the clear going
on at once where CLAMPED is on (R89, R97); a re-clamp asked for anew replaces the open request (log 34). The clear
deletes the fault record and acts by the resume: VACANT, COMPLETE, the SEATED decision, WORKING with START off until
the scan notice and stage 1 loaded from P1, or the abandon, which HOME on ends at once (R82, R89, R90). STATION CLEARED
carries the state reached, no LEVEL-mode fault follows it since FLT is off (R84), and readiness is judged at the end of
the event (R53, log 7). The decision of ABANDON writes FAILED in place of a start (R90). The taken flag of an
INTERRUPTED operation's end is the model's choice (log 28), as is the order of the reports of the event where no rule
gives it (logs 8, 75). -/
def Obligations.FaultClearActsByTheResume : Prop :=
  (∀ (s : State) (tag k : Byte) (both : Reason → Prop), s.Free →
    (∀ why, both why ↔
      exec (.faultClearRetry tag k) s = .next (s.answered 0x18 tag (.refused why [])) ∧
        exec (.faultClearAbandon tag k) s = .next (s.answered 0x18 tag (.refused why []))) →
    (s.isq.line = .unconfigured → both .wrongState) ∧
    (s.isq.line ≠ .unconfigured →
      (¬(1 ≤ k.toNat ∧ k.toNat ≤ s.n) → both .badField) ∧
      (1 ≤ k.toNat → k.toNat ≤ s.n →
        ((s.unit k.toNat).state ≠ .faulted → both .notFaulted) ∧
        (∀ f : FaultRecord, (s.unit k.toNat).state = .faulted → (s.unit k.toNat).fault = some f →
          (f.reclamp = true ∨ s.nodeLost k.toNat = true → both .wrongState) ∧
          (f.reclamp = false → s.nodeLost k.toNat = false → (s.unit k.toNat).config.faultMode = .level →
            (s.image k.toNat).flt = true → both .stillActive))))) ∧
  (∀ (s x y : State) (tag k : Byte) (f : FaultRecord) (u : StationUnit) (barUp other lost : Prop), s.Free →
    s.isq.line ≠ .unconfigured → 1 ≤ k.toNat → k.toNat ≤ s.n → u = s.unit k.toNat → u.state = .faulted →
    u.fault = some f → f.reclamp = false → s.nodeLost k.toNat = false →
    ¬(u.config.faultMode = .level ∧ (s.image k.toNat).flt = true) →
    (barUp ↔ ∃ ph ∈ [Phase.release, .withdraw, .lift, .advance, .lower],
      (s.isq.line = .running ∧ s.isq.phase = some ph) ∨
        (s.isq.line = .halted ∧ s.isq.haltRecord.map HaltRecord.phase = some ph)) →
    (other ↔ f.resume = .operation ∧ s.palletAt k.toNat ≠ u.operation.map Operation.pallet) →
    (lost ↔ f.clampLost = true ∧ u.config.kind ≠ .idle ∧ s.palletAt k.toNat ≠ none) →
    x = s.modUnit k.toNat (fun w => { w with fault := some { f with reclamp := true } }) →
    y = State.requestPulse (.clamp k.toNat) .engage .position { x with sct := { x.sct with
      requests := x.sct.requests.filter (·.id ≠ .reclamp k.toNat) ++
        [{ id := .reclamp k.toNat, timer := x.sct.settings.clamp }] } } →
    ((other ∨ (f.clampLost = true ∧ barUp)) →
      exec (.faultClearRetry tag k) s = .next (s.answered 0x18 tag (.refused .wrongState []))) ∧
    (¬other → ¬(f.clampLost = true ∧ barUp) → lost → (s.image k.toNat).clamped = false →
      exec (.faultClearRetry tag k) s = .next (y.judgeReady.answered 0x18 tag (.accepted []))) ∧
    (∀ (c : Instr) (a : ClearAction) (b : State) (ans : Answer) (cleared : State → Prop),
      (a = .abandon ∧ c = .faultClearAbandon tag k ∧ b = s ∧ ans = .ok []) ∨
        (a = .retry ∧ c = .faultClearRetry tag k ∧ ¬other ∧ ¬(f.clampLost = true ∧ barUp) ∧
          ((¬lost ∧ b = s ∧ ans = .ok []) ∨
            (lost ∧ (s.image k.toNat).clamped = true ∧ ans = .accepted [] ∧
              b = { y with sct := { y.sct with requests := y.sct.requests.filter (·.id ≠ .reclamp k.toNat) } }))) →
      (∀ v, cleared v ↔ exec c s =
        .next (((v.report (.stationCleared k.toNat a f.cause (v.unit k.toNat).state)).judgeReady).answered 0x18 tag ans)) →
      (f.resume = .vacant → cleared (b.modUnit k.toNat fun w => { w with fault := none, state := .vacant })) ∧
      (f.resume = .complete → cleared (b.modUnit k.toNat fun w => { w with fault := none, state := .complete })) ∧
      (f.resume = .decision →
        cleared ((b.modUnit k.toNat fun w => { w with fault := none }).decide k.toNat
          (if a = .retry then .start else .failed))) ∧
      (∀ o : Operation, u.operation = some o →
        (f.resume = .operation → a = .retry →
          cleared (b.modUnit k.toNat fun w => { w with
            fault := none, state := .working, start := false, restartWait := true
            stage1 := some (w.config.p1 * 100), stage2 := none, operation := some { o with doneSeenOff := false } })) ∧
        (∀ (o' : Operation) (d e : State),
          (f.resume = .operation ∧ a = .abandon ∧ o' = { o with result := some .failed } ∧
              d = State.report (.stationAbandoning k.toNat o.pallet o.program .fault)
                (b.modUnit k.toNat fun w => { w with fault := none, operation := some o' })) ∨
            (f.resume = .abandon ∧ o' = o ∧ d = b.modUnit k.toNat fun w => { w with fault := none }) →
          e = (d.modUnit k.toNat fun w => { w with
            state := .abandoning, start := false, restartWait := false, stage1 := none, stage2 := none }) →
          ((s.image k.toNat).home = false → cleared e) ∧
          ((s.image k.toNat).home = true → ∃ v : State,
            (∀ r, o'.result = some r →
              v = (e.append k.toNat o.program r).1.report (.operationEnd k.toNat o.pallet o.program r
                ((s.timeBase + 4294967296 - o.start) % 4294967296) (e.append k.toNat o.program r).2)) ∧
            (o'.result = none →
              v = e.report (.operationEnd k.toNat o.pallet o.program .interrupted
                ((s.timeBase + 4294967296 - o.start) % 4294967296) o.interruptTaken)) ∧
            cleared (v.modUnit k.toNat fun w => { w with
              state := .complete, start := false, restartWait := false, stage1 := none, stage2 := none
              operation := none })))))) ∧
  ∀ (s : State) (k : Nat) (starts : Block → Prop),
    (∀ x, starts x ↔ (s.unit k).config.kind ≠ .idle ∧ s.palletAt k ≠ none ∧ s.blockAt k = some x ∧
      s.program x.variant k ≠ 0 ∧ x.lock = false ∧ x.logged k = false ∧ x.disposition ≠ .reject ∧
      (s.unit k).inService = true) →
    ((∀ x, ¬starts x) → s.decide k .failed = s.decide k .start) ∧
    (∀ x, starts x →
      s.decide k .failed =
        (s.append k (s.program x.variant k) .failed).1.modUnit k fun u => { u with state := .complete })

/-- The SEATED decision takes the first order of Table 4-2 that applies; at the last START is given with the route's
program, stage 1 loaded from P1 and DONE seen off set when DONE is off (R28, R76, R77). The end of VERIFY brings it in
VACANT and COMPLETE and moves the resume of a faulted unit (R76). The changes between two images of a station: DONE and
HOME complete an operation in WORKING and LATE, end an abandon, are UNEXPECTED DONE or TOOL_MOVED elsewhere (R78, R79,
R82, R85); FLT rises and CLAMPED drops under the clamp watch are faults, and an IDLE station takes none (R79, R84, R86).
A fault is taken or added (R83, R89). The model's choices and readings: HOME and DONE judged before FLT and CLAMPED (log
9), one UNEXPECTED DONE for an image in which DONE and HOME rise together (log 20), the taken flag of an INTERRUPTED
operation's end from the append of the RESTART (log 28). -/
def Obligations.SeatedDecisionByItsOrders : Prop :=
  ∀ (s : State) (k : Nat),
    (s.palletAt k = none → s.decide k .start = s.modUnit k fun u => { u with state := .vacant }) ∧
    (∀ id, s.palletAt k = some id → (s.unit k).config.kind = .idle →
      s.decide k .start = s.modUnit k fun u => { u with state := .vacant }) ∧
    (∀ id, s.palletAt k = some id → (s.unit k).config.kind ≠ .idle → s.blockAt k = none →
      s.decide k .start = s.modUnit k fun u => { u with state := .complete }) ∧
    (∀ id x, s.palletAt k = some id → (s.unit k).config.kind ≠ .idle → s.blockAt k = some x →
      (s.program x.variant k = 0 ∨ x.lock = true ∨ x.logged k = true) →
      s.decide k .start = s.modUnit k fun u => { u with state := .complete }) ∧
    (∀ id x, s.palletAt k = some id → (s.unit k).config.kind ≠ .idle → s.blockAt k = some x →
      s.program x.variant k ≠ 0 → x.lock = false → x.logged k = false →
      (x.disposition = .reject ∨ (s.unit k).inService = false) →
      s.decide k .start =
        (s.append k (s.program x.variant k) .skipped).1.modUnit k fun u => { u with state := .complete }) ∧
    (∀ id x, s.palletAt k = some id → (s.unit k).config.kind ≠ .idle → s.blockAt k = some x →
      s.program x.variant k ≠ 0 → x.lock = false → x.logged k = false → x.disposition ≠ .reject →
      (s.unit k).inService = true →
      s.decide k .start =
        (s.modUnit k fun u => { u with
          state := .working, start := true, restartWait := false, stage1 := some (u.config.p1 * 100), stage2 := none
          operation := some { pallet := id, program := s.program x.variant k, start := s.timeBase
                              doneSeenOff := !(s.image k).done, result := none, interruptTaken := false } }).report
          (.operationStart k id x.serial (s.program x.variant k))) ∧
    (1 ≤ k →
      ((s.unit k).state = .vacant ∨ (s.unit k).state = .complete → s.endOfVerify k = s.decide k .start) ∧
      (∀ f, (s.unit k).state = .faulted → (s.unit k).fault = some f →
        s.endOfVerify k = s.modUnit k fun u => { u with fault := some { f with
          resume := if s.palletAt k ≠ none ∧ (s.unit k).config.kind ≠ .idle then .decision else .vacant } })) ∧
    (∀ (old new : InputImage) (u : StationUnit) (barUp : Prop), 1 ≤ k → s.image k = new → u = s.unit k →
      (barUp ↔ ∃ ph ∈ [Phase.release, .withdraw, .lift, .advance, .lower],
        (s.isq.line = .running ∧ s.isq.phase = some ph) ∨
          (s.isq.line = .halted ∧ s.isq.haltRecord.map HaltRecord.phase = some ph)) →
      (u.config.kind = .idle → s.unitInputs k old new = s) ∧
      (u.config.kind ≠ .idle → ¬(old.flt = false ∧ new.flt = true) → ¬(old.clamped = true ∧ new.clamped = false) →
        (∀ (o : Operation) (r : LogResult), u.state = .working ∨ u.state = .late → u.operation = some o →
          (new.done = true → new.home = true → o.doneSeenOff = true → u.restartWait = false →
            r = (if u.config.kind = .gauge then (if new.pass = true then .pass else .fail) else .done) →
            s.unitInputs k old new =
              State.modUnit k (fun v => { v with
                  state := .complete, start := false, restartWait := false, stage1 := none, stage2 := none
                  operation := none })
                ((s.append k o.program r).1.report (.operationEnd k o.pallet o.program r
                  ((s.timeBase + 4294967296 - o.start) % 4294967296) (s.append k o.program r).2))) ∧
          (old.done = true → new.done = false →
            s.unitInputs k old new =
              s.modUnit k fun v => { v with operation := v.operation.map fun x => { x with doneSeenOff := true } }) ∧
          (¬(old.done = true ∧ new.done = false) →
            ¬(new.done = true ∧ new.home = true ∧ o.doneSeenOff = true ∧ u.restartWait = false) →
            s.unitInputs k old new = s)) ∧
        (u.state = .vacant ∨ u.state = .complete → ¬(old.home = true ∧ new.home = false) →
          s.unitInputs k old new =
            if (old.done = false ∧ new.done = true) ∨ (old.home = false ∧ new.home = true ∧ new.done = true) then
              s.report (.unexpectedDone k u.state)
            else s) ∧
        (∀ f : FaultRecord, u.state = .faulted → u.fault = some f →
          f.resume = .operation ∨ f.resume = .abandon ∨ ¬(old.home = true ∧ new.home = false) →
          ((old.done = false ∧ new.done = true) ∨ (old.home = false ∧ new.home = true ∧ new.done = true) →
            s.unitInputs k old new =
              (s.report (.unexpectedDone k .faulted)).modUnit k fun v => { v with
                fault := some { f with doneWhileFaulted := f.doneWhileFaulted ||
                  (new.home && new.done && f.resume == .operation) } }) ∧
          (¬(old.done = false ∧ new.done = true) → ¬(old.home = false ∧ new.home = true ∧ new.done = true) →
            s.unitInputs k old new = s)) ∧
        (u.state = .vacant ∨ u.state = .complete ∨
            (u.state = .faulted ∧ ∃ f, u.fault = some f ∧ f.resume ≠ .operation ∧ f.resume ≠ .abandon) →
          old.home = true → new.home = false → old.done = new.done →
          (¬barUp → s.unitInputs k old new = s.unitFault k .toolMoved) ∧
          (barUp → s.unitInputs k old new = (s.unitFault k .toolMoved).raiseCause .toolMoved [k])) ∧
        (∀ o : Operation, u.state = .abandoning → u.operation = some o →
          (¬(old.home = false ∧ new.home = true) →
            s.unitInputs k old new =
              if old.done = false ∧ new.done = true then s.report (.unexpectedDone k .abandoning) else s) ∧
          (old.home = false → new.home = true → ¬(old.done = false ∧ new.done = true) → ∃ v : State,
            (∀ r, o.result = some r →
              v = (s.append k o.program r).1.report (.operationEnd k o.pallet o.program r
                ((s.timeBase + 4294967296 - o.start) % 4294967296) (s.append k o.program r).2)) ∧
            (o.result = none →
              v = s.report (.operationEnd k o.pallet o.program .interrupted
                ((s.timeBase + 4294967296 - o.start) % 4294967296) o.interruptTaken)) ∧
            s.unitInputs k old new =
              v.modUnit k fun w => { w with
                state := .complete, start := false, restartWait := false, stage1 := none, stage2 := none
                operation := none }))) ∧
      (u.config.kind ≠ .idle → old.home = new.home → old.done = new.done →
        ¬((u.state = .working ∨ u.state = .late) ∧ new.done = true) →
        (old.flt = false → new.flt = true → ¬(old.clamped = true ∧ new.clamped = false) →
          s.unitInputs k old new = s.unitFault k .fltInput) ∧
        (¬(old.flt = false ∧ new.flt = true) → old.clamped = true → new.clamped = false →
          s.unitInputs k old new =
            if u.clampWatch = true ∧ s.palletAt k ≠ none then s.unitFault k .clampLoss else s)) ∧
      ∀ c : FaultCause,
        (u.state ≠ .faulted →
          s.unitFault k c =
            (s.modUnit k fun v => { v with
              state := .faulted, stage1 := none, stage2 := none, restartWait := false
              fault := some
                { cause := c, clampLost := c == .clampLoss, doneWhileFaulted := false, reclamp := false
                  resume := match v.state with
                    | .vacant => .vacant
                    | .complete => .complete
                    | .working | .late => .operation
                    | .abandoning => .abandon
                    | .seated | .faulted => .decision } }).report
              (.stationFault k c u.state (s.palletAt k) (u.operation.map Operation.program) false)) ∧
        (∀ f, u.state = .faulted → u.fault = some f →
          s.unitFault k c =
            (s.modUnit k fun v => { v with
              fault := some { f with
                clampLost := f.clampLost || c == .clampLoss, cause := if f.reclamp = true then c else f.cause
                reclamp := false } }).report
              (.stationFault k c .faulted (s.palletAt k) (u.operation.map Operation.program) true)))

/-- Supervision: stage 1 expires in WORKING with LATE and stage 2 loaded from P2; stage 2 expires in LATE with OVERRUN
under HOLD, START staying on, or with ABANDONING and the pending result TIMEDOUT under ABANDON, where HOME on ends the
abandon at once with the entry TIMEDOUT and OPERATION END (R80 to R83). A stage expires with its count at 0, and STATION
ABANDONING comes before OPERATION END: the model's choices (logs 1, 75). -/
def Obligations.SupervisionByItsStages : Prop :=
  ∀ (s : State) (k : Nat) (o : Operation), s.Calm → 1 ≤ k → k ≤ s.n → (s.unit k).operation = some o →
    ((s.unit k).state = .working → (s.unit k).stage1 = some 0 →
      exec (.stage1Expiry k) s =
        .next ((((s.report (.late k o.pallet o.program (elapsedSince o.start s.timeBase))).modUnit k fun u =>
          { u with state := .late, stage1 := none, stage2 := some (u.config.p2 * 100) })).flushOverflow)) ∧
    ((s.unit k).state = .late → (s.unit k).stage2 = some 0 → (s.unit k).config.policy = .hold →
      exec (.stage2Expiry k) s =
        .next ((((s.modUnit k fun u => { u with
            state := .faulted, stage1 := none, stage2 := none, restartWait := false
            fault := some { cause := .overrun, clampLost := false
                            resume := match u.state with
                              | .vacant => .vacant
                              | .complete => .complete
                              | .working | .late => .operation
                              | .abandoning => .abandon
                              | .seated | .faulted => .decision
                            doneWhileFaulted := false, reclamp := false } }).report
          (.stationFault k .overrun .late (s.palletAt k) (some o.program) false))).flushOverflow)) ∧
    ((s.unit k).state = .late → (s.unit k).stage2 = some 0 → (s.unit k).config.policy = .abandon →
      (s.image k).home = false →
      exec (.stage2Expiry k) s =
        .next ((((s.modUnit k fun u => { u with
            state := .abandoning, start := false, restartWait := false, stage1 := none, stage2 := none
            operation := some { o with result := some .timedOut } }).report
          (.stationAbandoning k o.pallet o.program .overrun)).judgeReady).flushOverflow)) ∧
    (∀ e v : State, (s.unit k).state = .late → (s.unit k).stage2 = some 0 → (s.unit k).config.policy = .abandon →
      (s.image k).home = true →
      e = (s.modUnit k fun u => { u with
          state := .abandoning, start := false, restartWait := false, stage1 := none, stage2 := none
          operation := some { o with result := some .timedOut } }).report
        (.stationAbandoning k o.pallet o.program .overrun) →
      v = (e.append k o.program .timedOut).1.report (.operationEnd k o.pallet o.program .timedOut
        ((s.timeBase + 4294967296 - o.start) % 4294967296) (e.append k o.program .timedOut).2) →
      exec (.stage2Expiry k) s =
        .next (State.flushOverflow (State.judgeReady (v.modUnit k fun u => { u with
          state := .complete, start := false, restartWait := false, stage1 := none, stage2 := none
          operation := none })))) ∧
    ((s.unit k).stage1 ≠ some 0 → exec (.stage1Expiry k) s = .next s.flushOverflow) ∧
    ((s.unit k).stage2 ≠ some 0 → exec (.stage2Expiry k) s = .next s.flushOverflow)

/-! ## The valves (R57, R95, R96, R101, R105, R108) -/

/-- The requests and timers of the valves. A request meets a channel by the table of R96. At the end of a pulse the
output goes off and a pending pulse starts; where a top-up started or joined it, CLAMPED off under an open held interval
with a pallet is CLAMP_LOSS, and the end of the last group B pulse loads the top-up timer again (R95, R107, R108). The
interval is read as it stands at the end, opened again since a RELEASE too: the model's choice (log 56). The stagger
wait of CLAMP asks for group B; a top-up asks for group A and waits, and its stagger asks for group B; with a stagger of
0 group B follows group A in the event of the expiry, the model's reading (log 45); a closed held interval, or a timer
or a wait that has not run out, asks for nothing (R95, R96, R101, R108). The timer of a position request expires: in
SEATING and in FEEDING the feed ends with FEED FAULT, stage SEATING or LOCATOR, reason TIMEOUT, position 0 EMPTY and the
load hold set (R105, R144, R145, R149); a re-clamp in progress ends unfinished with cause CLAMP_LOSS and the resume kept
(R89, R105). A timer ends with its count at 0, and a request opened anew replaces an open one, and FEED FAULT comes
after LOAD STATE: the model's choices (logs 1, 34, 58). -/
def Obligations.PulsesStartAndEnd : Prop :=
  ∀ s : State,
    (∀ (c : ChannelId) (x : Side) (w : Requester) (ch : Channel), s.openChannel c = some ch →
      (ch.pulse = none →
        (s.requestPulse c x w).channel c =
          some { pulse := some { side := x, timer := s.sct.settings.pulse, requesters := [w] }, commanded := some x
                 pending := none }) ∧
      (∀ p, ch.pulse = some p → p.side = x →
        (s.requestPulse c x w).channel c =
          some { ch with pulse := some { p with requesters := p.requesters ++ [w] }, pending := none }) ∧
      (∀ p, ch.pulse = some p → p.side ≠ x → ch.pending = none →
        (s.requestPulse c x w).channel c = some { ch with pending := some { side := x, requesters := [w] } }) ∧
      (∀ p q, ch.pulse = some p → p.side ≠ x → ch.pending = some q →
        (s.requestPulse c x w).channel c =
          some { ch with pending := some { q with requesters := q.requesters ++ [w] } })) ∧
    (s.Calm →
      (∀ (c : ChannelId) (ch : Channel) (p : Pulse), s.channel c = some ch → ch.pulse = some p → p.timer = 0 →
        p.toppedUp = false → s.sct.topUp ≠ .groupB →
        (ch.pending = none →
          exec (.pulseEnd c) s = .next ((s.modChannel c fun y => { y with pulse := none }).flushOverflow)) ∧
        (∀ q, ch.pending = some q →
          exec (.pulseEnd c) s = .next ((s.startPulse c q.side q.requesters).flushOverflow))) ∧
      (∀ (c : ChannelId) (ch : Channel) (p : Pulse) (y : State) (read : Nat → Prop), s.channel c = some ch →
        ch.pulse = some p → p.timer = 0 →
        y = (match ch.pending with
          | none => s.modChannel c fun z => { z with pulse := none }
          | some q => s.startPulse c q.side q.requesters) →
        (∀ k, read k ↔ c = .clamp k ∧ (.topUp .a ∈ p.requesters ∨ .topUp .b ∈ p.requesters) ∧ s.sct.held = true ∧
          s.palletAt k ≠ none ∧ (s.image k).clamped = false) →
        (∀ k, read k → exec (.pulseEnd c) s = .next (y.unitFault k .clampLoss).topUpReload.flushOverflow) ∧
        ((∀ k, ¬read k) → exec (.pulseEnd c) s = .next y.topUpReload.flushOverflow)) ∧
      (∀ left : Prop,
        (left ↔ ∃ ch ∈ s.sct.clamps, (∃ p, ch.pulse = some p ∧ .topUp .b ∈ p.requesters) ∨
          ∃ q, ch.pending = some q ∧ .topUp .b ∈ q.requesters) →
        (s.sct.topUp = .groupB → ¬left →
          s.topUpReload = { s with sct := { s.sct with
            topUp := .idle
            topUpTimer :=
              if s.sct.held = true ∧ s.sct.settings.topUp ≠ 0 then some (s.sct.settings.topUp * 1000) else none } }) ∧
        (s.sct.topUp ≠ .groupB ∨ left → s.topUpReload = s)) ∧
      (∀ w : ClampWait, s.sct.clampWait = some w → w.timer = 0 →
        exec .clampStagger s =
          .next ((State.requestPulses (w.stations.map .clamp) .engage (.phase .clamp)
            { s with sct := { s.sct with clampWait := none } }).flushOverflow)) ∧
      ((∀ w, s.sct.clampWait = some w → w.timer ≠ 0) → exec .clampStagger s = .next s.flushOverflow) ∧
      (∀ g : State, g = State.requestPulses ((s.groupStations .a).map .clamp) .engage (.topUp .a)
          { s with sct := { s.sct with topUpTimer := none } } →
        s.sct.held = true → s.sct.topUpTimer = some 0 →
        (s.sct.settings.stagger ≠ 0 →
          exec .topup s =
            .next (State.flushOverflow { g with sct := { g.sct with topUp := .stagger s.sct.settings.stagger } })) ∧
        (s.sct.settings.stagger = 0 →
          exec .topup s =
            .next (State.flushOverflow (State.topUpReload
              (State.requestPulses ((s.groupStations .b).map .clamp) .engage (.topUp .b)
                { g with sct := { g.sct with topUp := .groupB } }))))) ∧
      (s.sct.held = false ∨ s.sct.topUpTimer ≠ some 0 → exec .topup s = .next s.flushOverflow) ∧
      (s.sct.topUp ≠ .stagger 0 → exec .topupStagger s = .next s.flushOverflow) ∧
      (s.sct.held = true → s.sct.topUpTimer = some 0 → s.sct.settings.stagger ≠ 0 →
        ∃ t, exec .topup s = .next t ∧ t.sct.topUp = .stagger s.sct.settings.stagger ∧ t.sct.topUpTimer = none ∧
          t.sct.locators = s.sct.locators ∧ t.sct.lift = s.sct.lift ∧ t.prg = s.prg ∧ t.rtb = s.rtb ∧
          t.stu = s.stu ∧ t.mgn = s.mgn ∧ t.cam = s.cam ∧ t.fdu = s.fdu ∧ t.rgc = s.rgc ∧
          (∀ k ch, s.isOccupied k = true → (s.unit k).config.group = some .a → s.channel (.clamp k) = some ch →
            ch.pulse = none → t.commandedSide (.clamp k) = some .engage)) ∧
      (s.sct.topUp = .stagger 0 →
        exec .topupStagger s =
          .next ((State.topUpReload (State.requestPulses ((s.groupStations .b).map .clamp) .engage (.topUp .b)
            { s with sct := { s.sct with topUp := .groupB } })).flushOverflow)) ∧
      (∀ id : RequestId, (∀ r ∈ s.sct.requests, r.id = id → r.timer ≠ 0) →
        exec (.positionRequestTimeout id) s = .next s.flushOverflow) ∧
      (∀ (id : RequestId) (y : State), (∃ r ∈ s.sct.requests, r.id = id ∧ r.timer = 0) →
        y = { s with sct := { s.sct with requests := s.sct.requests.filter (·.id ≠ id) } } →
        (∀ stage : FeedStage,
          (id = .seatLoad ∧ s.fdu.state = .seating ∧ stage = .seating) ∨
            (id = .releaseLoad ∧ s.fdu.state = .feeding ∧ stage = .locator) →
          (∀ r ∈ y.sct.requests, ∃ k, r.id = .reclamp k) → s.prg.disagreement = none →
          exec (.positionRequestTimeout id) s =
            .next (State.flushOverflow (State.setHold .alarm
              (State.report (.feedFault stage .timeout s.fdu.expected (s.image 0).present)
                (State.report (.loadState s.fdu.state .empty (s.slot 0) true) { y with fdu := { s.fdu with
                  state := .empty, loadHold := true, gate := false, read := false, feedTimer := none, readTimer := none
                  loadWait := none, expected := none, mode := none } }))))) ∧
        (∀ (k : Nat) (f : FaultRecord), 1 ≤ k → k ≤ s.n → id = .reclamp k → (s.unit k).state = .faulted →
          (s.unit k).fault = some f → f.reclamp = true →
          exec (.positionRequestTimeout id) s =
            .next (State.flushOverflow
              (State.report (.stationFault k .clampLoss .faulted (s.palletAt k)
                  ((s.unit k).operation.map Operation.program) false)
                (y.modUnit k fun u => { u with fault := some { f with cause := .clampLoss, reclamp := false } }))))))

/-- The phases of an index: what each does at its start and what follows its end. A valve phase asks for its pulses and
ends when its condition holds over its set, in its own event if it holds already (R55, R57, R59, R99 to R101, Table 5-1);
RELEASE closes the held interval and cancels a group B top-up that waits or is pending (R56, R107, R109); LIFT and LOWER
move by the switches (R102, R103); ADVANCE swaps an ARMED bank, sets the transit marks and defers the unload watch (R12,
R39, R58, R133), its settle takes the shift (R121, R151); VERIFY passes or halts with MAP (R60); RETURN ends the index
(R61, R161), and a pass in course BACKWARD closes it without a shift (R162). The model's choices and readings: LIFT stays
while a mark is missing (log 23), LOWER is judged with the switches at UP (log 46), a CLAMP that completes in an open held
interval loads the top-up timer again and keeps the top-up in hand (log 48), the start of WAIT reports LINE STATE and no
PHASE (log 51), RELEASE leaves a pending CLAMP that group B and another requester asked for to the latter (log 65). -/
def Obligations.PhasesFollowInOrder : Prop :=
  ∀ (s : State) (b : Phase → State),
    (∀ ph, b ph = State.report (.phase ph s.prg.indexCount) { s with isq := { s.isq with phase := some ph } }) →
    (∀ w : State,
      w = State.requestPulses (s.occupiedStations.map .clamp) .disengage (.phase .release) { b .release with
        stu := s.stu.map fun u => { u with clampWatch := false }
        sct := { s.sct with
          clampWait := none, held := false, topUpTimer := none, topUp := .idle
          clamps := s.sct.clamps.map fun ch => { ch with
            pending :=
              match ch.pending with
              | none => none
              | some q =>
                if ∀ x ∈ q.requesters, x = .topUp .b then none
                else some { q with requesters := q.requesters.filter (· ≠ .topUp .b) } }
          command := some { phase := .release, positions := s.occupiedStations, timer := s.sct.settings.release } } } →
      s.startRelease =
        if ∀ k ∈ s.occupiedStations, (s.image k).unclamped = true ∧ (s.image k).clamped = false then
          State.startWithdraw { w with sct := { w.sct with command := none }, isq := { w.isq with released := true } }
        else w) ∧
    (∀ w : State,
      w = State.requestPulses (s.positionList.map .locator) .disengage (.phase .withdraw) { b .withdraw with
        sct := { s.sct with
          command := some { phase := .withdraw, positions := s.positionList, timer := s.sct.settings.locate } } } →
      s.startWithdraw =
        if ∀ p ∈ s.positionList, (s.image p).locOut = true ∧ (s.image p).locIn = false then
          State.startLift { w with sct := { w.sct with command := none }, isq := { w.isq with withdrawn := true } }
        else w) ∧
    (∀ w : State,
      w = State.requestPulse .lift .engage .lift { b .lift with
        sct := { s.sct with movement := some { move := .raise, timer := s.sct.settings.lift } } } →
      s.startLift =
        match s.lineImage.liftUp, s.lineImage.liftDown with
        | true, false =>
          if s.isq.released = true ∧ s.isq.withdrawn = true then
            State.startAdvance { w with
              isq := { w.isq with lifted := true }, sct := { w.sct with liftState := .up, movement := none } }
          else { w with isq := { w.isq with lifted := true }, sct := { w.sct with liftState := .up, movement := none } }
        | true, true =>
          State.report (.liftUnknown true true (some .raise)) { w with sct := { w.sct with liftState := .unknown } }
        | false, _ => { w with sct := { w.sct with liftState := .rising } }) ∧
    (∀ (x : State) (r : State × Bool),
      x = State.swapBanks { b .advance with prg := { s.prg with
        watch := .deferred
        records := s.prg.records.map fun q => if .pallet q.id ∈ s.prg.map then { q with transit := true } else q } } →
      r = x.askStroke .advance s.mgn.settings.stroke → s.startAdvance = if r.2 = true then r.1.strokeDone else r.1) ∧
    ((∀ id, (s.cam.bank id).state ≠ .armed) → s.swapBanks = s) ∧
    (∀ id, (s.cam.bank id).state = .armed → (s.cam.bank id.other).state ≠ .armed →
      s.swapBanks =
        State.report
          (.bankSwapped id (s.cam.bank id).points.length
            (if (s.cam.bank id.other).state = .active then some id.other else none))
          ((s.modBank id fun y => { y with state := .active }).modBank id.other fun y => { y with state := .open_ })) ∧
    (∀ (d : Direction) (goal : Int),
      (s.mgn.drive ≠ .ready → s.askStroke d goal = (s.raiseCause .driveFault [], false)) ∧
      ∀ (dist : Nat) (p : Plan) (t : State), s.mgn.drive = .ready →
        dist = (match d with | .advance => goal - s.mgn.commanded | .returning => s.mgn.commanded - goal).toNat →
        p = makePlan s.mgn.settings d s.mgn.commanded goal dist →
        t = State.report (.strokePlan p) { s with
          mgn := { s.mgn with
            plan := some p, enable := true, errorCount := 0, peakError := 0, settleTime := 0, velocity := 0
            motion := if dist = 0 then .settling else .moving
            settleTimer := if dist = 0 then some s.mgn.settings.settle else none }
          cam := { s.cam with
            stroke := some
              { direction := d, live := true, previous := s.mgn.lastFeedback, fired := []
                bank := if s.cam.bankA.state = .active then some .a
                  else if s.cam.bankB.state = .active then some .b else none } } } →
        s.askStroke d goal =
          if dist = 0 ∧ s.mgn.lastFeedback.any (fun f => (f - goal).natAbs ≤ s.mgn.settings.band) = true then
            (t.settleStroke, true)
          else (t, false)) ∧
    (∀ p : Plan, s.mgn.plan = some p →
      s.settleStroke =
        State.report
          (.strokeEnd p.direction .settled p.sent s.mgn.commanded s.mgn.lastFeedback s.mgn.settleTime s.mgn.peakError)
          { s with
            mgn := { s.mgn with plan := none, settleTimer := none, motion := .atRest, velocity := 0 }
            cam := { s.cam with stroke := none } }) ∧
    (s.isq.line = .running →
      (s.isq.phase = some .advance → s.isq.course = .forward →
        s.strokeDone = State.startLower (State.toLoad .empty s.shift)) ∧
      (s.isq.phase = some .advance → s.isq.course = .backward → s.strokeDone = s.startLower) ∧
      (s.isq.phase = some .returning → s.strokeDone = s.endIndex)) ∧
    (∀ w : State,
      w = State.requestPulse .lift .disengage .lift { b .lower with
        sct := { s.sct with movement := some { move := .lower, timer := s.sct.settings.lift } } } →
      s.startLower =
        match s.lineImage.liftUp, s.lineImage.liftDown with
        | false, true => State.lowerDone { w with sct := { w.sct with liftState := .down, movement := none } }
        | false, false => { w with sct := { w.sct with liftState := .falling } }
        | true, down =>
          State.report (.liftUnknown true down (some .lower)) { w with sct := { w.sct with liftState := .unknown } }) ∧
    (s.lowerDone =
      match s.isq.course with
      | .forward => s.startLocate
      | .backward => State.startLocate (State.judgeWatch { s with prg := { s.prg with
          records := s.prg.records.map fun q => { q with transit := false } } })) ∧
    (∀ w : State,
      w = State.requestPulses (s.workPositions.map .locator) .engage (.phase .locate) { b .locate with
        sct := { s.sct with
          command := some { phase := .locate, positions := s.workPositions, timer := s.sct.settings.locate } } } →
      s.startLocate =
        if ∀ p ∈ s.workPositions, (s.image p).locIn = true then
          State.startClamp { w with sct := { w.sct with command := none } }
        else w) ∧
    (∀ c w : State,
      c = { b .clamp with sct := { s.sct with
        command := some { phase := .clamp, positions := s.occupiedStations, timer := s.sct.settings.clamp } } } →
      (s.sct.settings.stagger = 0 →
        w = c.requestPulses ((s.groupStations .a ++ s.groupStations .b).map .clamp) .engage (.phase .clamp)) →
      (s.sct.settings.stagger ≠ 0 → ∃ y : State,
        y = c.requestPulses ((s.groupStations .a).map .clamp) .engage (.phase .clamp) ∧
        w = { y with sct := { y.sct with
          clampWait := some { timer := s.sct.settings.stagger, stations := s.groupStations .b } } }) →
      s.startClamp =
        if ∀ k ∈ s.occupiedStations, (s.image k).clamped = true then
          State.clampDone { w with sct := { w.sct with command := none } }
        else w) ∧
    s.clampDone = State.startVerify (State.setClampWatches { s with sct := { s.sct with
      held := true
      topUpTimer := if s.sct.settings.topUp = 0 then none else some (s.sct.settings.topUp * 1000) } }) ∧
    ({ s.setClampWatches with stu := s.stu } = s ∧ ∀ k, 1 ≤ k → k ≤ s.stu.length →
      s.setClampWatches.unit k =
        if k ≤ s.n ∧ (s.unit k).config.kind ≠ .idle then { s.unit k with clampWatch := true } else s.unit k) ∧
    (∀ l : List Nat, l = s.verifyFailures →
      l.Pairwise (· < ·) ∧
      (∀ p, p ∈ l ↔ 1 ≤ p ∧ p ≤ s.n + 1 ∧
        ¬(((s.palletAt p).isSome = (s.image p).present) ∧ (s.image p).locIn = true ∧ (s.image p).locOut = false ∧
          (p ≤ s.n → (s.unit p).config.kind ≠ .idle → s.palletAt p ≠ none →
            (s.image p).clamped = true ∧ (s.image p).unclamped = false) ∧
          s.nodeLost p = false)) ∧
      (l ≠ [] → s.startVerify = (b .verify).raiseCause .map l) ∧
      (l = [] → s.isq.course = .backward → s.startVerify = (b .verify).closeBackward) ∧
      (l = [] → s.isq.course = .forward →
        s.startVerify = State.startReturn (((List.range s.n).map (· + 1)).foldl (fun t k => t.endOfVerify k) (b .verify)))) ∧
    (∀ r : State × Bool, r = (b .returning).askStroke .returning 0 →
      s.startReturn = if r.2 = true then r.1.endIndex else r.1) ∧
    (∀ t : State,
      t = (if s.isq.recovered = true then
          State.report (.recovered s.prg.indexCount .forward s.isq.shiftTaken s.isq.haltCount)
        else id)
        (s.report (.indexDone s.prg.indexCount ((s.timeBase + 4294967296 - s.isq.indexStart) % 4294967296)
          s.isq.recovered)) →
      s.endIndex =
        if s.isq.holdPending = true then
          State.report (.lineState .held none .indexEnd) { t with isq := { s.isq with
            line := .held, phase := none, holdPending := false, waitTimer := none } }
        else
          State.report (.lineState .running (some .wait) .indexEnd) { t with isq := { s.isq with
            line := .running, phase := some .wait, waitTimer := some (s.isq.waitDelay * 1000) } }) ∧
    (∀ t : State, t = State.loadCheck { s with prg := { s.prg with openIndex := false } } →
      s.closeBackward =
        State.report (.lineState .held none .indexEnd)
          { t.report (.recovered s.prg.indexCount .backward false s.isq.haltCount) with isq := { s.isq with
            line := .held, phase := none, holdPending := false, waitTimer := none } }) ∧
    (∀ (c : PhaseCommand) (t : State), s.sct.command = some c → t = { s with sct := { s.sct with command := none } } →
      (c.positions.all (s.endsWith c.phase) = false → s.judgeCommand = s) ∧
      (c.positions.all (s.endsWith c.phase) = true → s.isq.line = .running → s.isq.phase = some c.phase →
        (c.phase = .release →
          s.judgeCommand = State.startWithdraw { t with isq := { s.isq with released := true } }) ∧
        (c.phase = .withdraw → s.judgeCommand = State.startLift { t with isq := { s.isq with withdrawn := true } }) ∧
        (c.phase = .locate → s.judgeCommand = t.startClamp) ∧ (c.phase = .clamp → s.judgeCommand = t.clampDone))) ∧
    (∀ p, (s.endsWith .release p = true ↔ (s.image p).unclamped = true ∧ (s.image p).clamped = false) ∧
      (s.endsWith .withdraw p = true ↔ (s.image p).locOut = true ∧ (s.image p).locIn = false) ∧
      s.endsWith .locate p = (s.image p).locIn ∧ s.endsWith .clamp p = (s.image p).clamped) ∧
    (∀ m : Movement, s.sct.movement = some m →
      (m.move = .raise → s.lineImage.liftUp = true → s.lineImage.liftDown = false → s.isq.line = .running →
        s.isq.phase = some .lift → s.isq.released = true → s.isq.withdrawn = true →
        s.liftChanged = State.startAdvance { s with
          isq := { s.isq with lifted := true }, sct := { s.sct with liftState := .up, movement := none } }) ∧
      (m.move = .lower → s.lineImage.liftUp = false → s.lineImage.liftDown = true → s.isq.line = .running →
        s.isq.phase = some .lower →
        s.liftChanged = State.lowerDone { s with sct := { s.sct with liftState := .down, movement := none } }) ∧
      (m.move = .raise → s.lineImage.liftUp = false →
        s.liftChanged = { s with sct := { s.sct with liftState := .rising } }) ∧
      (m.move = .lower → s.lineImage.liftUp = false → s.lineImage.liftDown = false →
        s.liftChanged = { s with sct := { s.sct with liftState := .falling } }))

/-! ## The bar and the cams (R112, R115, R118, R119, R120, R136, R137) -/

/-- The plan of a stroke of distance d covers exactly d: its velocities add up to d, there are as many as the plan
says, and none is above V (R118, R119). -/
def Obligations.PlanCoversTheDistance : Prop :=
  ∀ (m : MotionSettings) (d : Direction) (o t : Int) (dist : Nat), 1 ≤ m.acceleration →
    m.acceleration ≤ m.velocity → dist < 4294967296 →
    ∃ p, p = makePlan m d o t dist ∧
      ((List.range p.total).map fun i => p.velocityAt m.acceleration (i + 1)).sum = dist ∧
      ∀ i, i < p.total → 1 ≤ p.velocityAt m.acceleration (i + 1) ∧ p.velocityAt m.acceleration (i + 1) ≤ m.velocity

/-- The drive link and the tick. A feedback frame of 8 bytes with header A6h, its sum 0 modulo 256 and the echo of the
last setpoint's sequence is kept when it is the first since the tick; any other is discarded (R112). The bytes of a
setpoint frame (R112, Table 6-1). A tick at rest in HELD. Every tick: the timers count down, the feedback is taken or
missed and the drive judged, the work of the motion follows, the frame is sent, and the conditions are judged (R2,
R112, R113, R120). At rest the commanded position follows the feedback with the enable off outside HALTED (R115);
MOVING and SETTLING check the following error, hand CAM the measured position, apply the plan's next velocity and judge
the settle (R119 to R122); STOPPING ramps down by Q and ends in STROKE END and HALT SETTLED (R123, R154); an entry to
LOST, FAULT or NOT_READY ends the motion and is a cause (R113, R124). The model's choices and readings: a tick is one
command and the timers fall first (log 1), the feed is judged before readiness at its end (log 7), the sequence a frame
carries and the echo before any is sent (log 15), the setpoint sent in the tick of a drive cause too (log 16), fields
of STROKE END (log 26), the drive judged before R115 in a tick at rest (log 57) and before the velocity in a tick of a
trial or of a quick stop (log 67), DRIVE STATE before STROKE END (log 70), the drive cause added before HALT SETTLED
(log 71). -/
def Obligations.MotionTickMovesTheBar : Prop :=
  (∀ (s : State) (l : List Byte), s.Calm → s.clu.overflow.first = none →
    (∀ (b p3 p2 p1 p0 q k : Byte) (sp : Setpoint), l = [0xA6, b, p3, p2, p1, p0, q, k] →
      (l.map BitVec.toNat).sum % 256 = 0 → s.mgn.sent = some sp →
      (q.toNat = sp.sequence → s.mgn.received = none →
        exec (.driveFeedbackReceived l) s =
          .next { s with mgn := { s.mgn with
            received := some { ready := b.getLsbD 0, fault := b.getLsbD 1, position := (p3 ++ p2 ++ p1 ++ p0).toInt } } }) ∧
      (q.toNat ≠ sp.sequence → exec (.driveFeedbackReceived l) s = .next s)) ∧
    (s.mgn.received.isSome = true ∨ l.length ≠ 8 ∨ l.head? ≠ some 0xA6 ∨ (l.map BitVec.toNat).sum % 256 ≠ 0 ∨
        s.mgn.sent = none →
      exec (.driveFeedbackReceived l) s = .next s)) ∧
  (∀ (s : State) (f : Feedback), s.Calm → s.isq.line = .held → s.fdu.state ≠ .empty → s.mgn.motion = .atRest →
    s.mgn.received = some f → f.drive = s.mgn.drive →
    ∃ (t : State) (x : Int), exec .motionTick s = .next t ∧
      x = (if s.mgn.enable then s.mgn.commanded
        else if within s.mgn.settings.band 0 f.position then 0
        else max 0 (min f.position s.mgn.settings.stroke)) ∧
      t.timeBase = (s.timeBase + 1) % 4294967296 ∧ t.mgn.received = none ∧ t.mgn.missed = 0 ∧
      t.mgn.lastFeedback = some f.position ∧ t.mgn.commanded = x ∧
      t.mgn.sent = some { sequence := s.mgn.sequence, enable := s.mgn.enable, position := x } ∧
      t.mgn.sequence = (s.mgn.sequence + 1) % 256 ∧ t.mgn.drive = s.mgn.drive ∧ t.mgn.enable = s.mgn.enable ∧
      t.mgn.motion = .atRest ∧ t.prg = s.prg ∧ t.rtb = s.rtb ∧ t.cam = s.cam ∧ t.rgc = s.rgc) ∧
  (∀ (s c m : State) (ch : Channel → Channel) (f : Option Feedback) (d : DriveState)
      (fin : State → Host.Outcome State Fault Refusal), s.Calm →
    (∀ x, ch x = { x with pulse := x.pulse.map fun y => { y with timer := y.timer - 1 } }) →
    c = { s with
      timeBase := (s.timeBase + 1) % 4294967296
      isq := { s.isq with waitTimer := s.isq.waitTimer.map (· - 1) }
      stu := s.stu.map fun u => { u with stage1 := u.stage1.map (· - 1), stage2 := u.stage2.map (· - 1) }
      sct := { s.sct with
        locators := s.sct.locators.map ch, clamps := s.sct.clamps.map ch, lift := ch s.sct.lift
        command := s.sct.command.map fun x => { x with timer := x.timer - 1 }
        clampWait := s.sct.clampWait.map fun x => { x with timer := x.timer - 1 }
        movement := s.sct.movement.map fun x => { x with timer := x.timer - 1 }
        requests := s.sct.requests.map fun x => { x with timer := x.timer - 1 }
        topUpTimer := s.sct.topUpTimer.map (· - 1)
        topUp := match s.sct.topUp with | .idle => .idle | .stagger n => .stagger (n - 1) | .groupB => .groupB }
      mgn := { s.mgn with
        settleTimer := s.mgn.settleTimer.map (· - 1)
        settleTime := if s.mgn.motion = .settling then s.mgn.settleTime + 1 else s.mgn.settleTime }
      fdu := { s.fdu with
        feedTimer := s.fdu.feedTimer.map (· - 1), readTimer := s.fdu.readTimer.map (· - 1)
        loadWait := s.fdu.loadWait.map (· - 1) } } →
    f = s.mgn.received →
    m = { c with mgn := { c.mgn with
      received := none, missed := if f = none then min (s.mgn.missed + 1) 3 else 0
      lastFeedback := match f with | none => s.mgn.lastFeedback | some x => some x.position } } →
    d = (match f with
      | none => if min (s.mgn.missed + 1) 3 = 3 then .lost else s.mgn.drive
      | some x => if x.fault then .fault else if x.ready then .ready else .notReady) →
    (∀ w : State, fin w = .next ((State.judge { w with mgn := { w.mgn with
      sent := some { sequence := w.mgn.sequence, enable := w.mgn.enable, position := w.mgn.commanded }
      sequence := (w.mgn.sequence + 1) % 256 } }).flushOverflow)) →
    (∀ x y : State,
      (d = s.mgn.drive ∧ x = m) ∨ (d ≠ s.mgn.drive ∧ d = .ready ∧
        x = State.report (.driveState s.mgn.drive d s.mgn.commanded m.mgn.lastFeedback)
          { m with mgn := { m.mgn with drive := d } }) →
      y = (match f with | none => x | some a => x.measure a.position) →
      (s.mgn.motion = .atRest → exec .motionTick s = fin (x.followAtRest f)) ∧
      (s.mgn.motion = .moving →
        exec .motionTick s = fin (if y.mgn.motion = .moving then y.movePlan.takeSettle else y)) ∧
      (s.mgn.motion = .settling → exec .motionTick s = fin (if f = none then x else y.takeSettle)) ∧
      (s.mgn.motion = .stopping → exec .motionTick s = fin x.quickTick) ∧
      (s.mgn.motion = .trial → exec .motionTick s = fin x.trialTick)) ∧
    (∀ (x : State) (cause : Cause), d ≠ s.mgn.drive → d ≠ .ready →
      cause = (if d = .lost then .driveLoss else .driveFault) →
      x = State.report (.driveState s.mgn.drive d s.mgn.commanded m.mgn.lastFeedback)
        { m with mgn := { m.mgn with drive := d } } →
      (s.mgn.motion = .atRest →
        exec .motionTick s =
          fin (((State.raiseCause cause [] { x with mgn := { x.mgn with enable := false } }).haltSettled).followAtRest f)) ∧
      (∀ p : Plan, (s.mgn.motion = .moving ∨ s.mgn.motion = .settling) → s.mgn.plan = some p →
        exec .motionTick s =
          fin ((State.raiseCause cause [] (State.report
            (.strokeEnd p.direction .ended p.sent s.mgn.commanded m.mgn.lastFeedback m.mgn.settleTime s.mgn.peakError)
            { x with
              mgn := { x.mgn with enable := false, plan := none, settleTimer := none, motion := .atRest, velocity := 0 }
              cam := { x.cam with stroke := none } })).haltSettled)) ∧
      (∀ q : QuickStop, s.mgn.motion = .stopping → s.mgn.quick = some q → q.trial = none →
        exec .motionTick s =
          fin ((State.raiseCause cause [] (State.report
            (.strokeEnd q.direction .ended q.ticks s.mgn.commanded m.mgn.lastFeedback m.mgn.settleTime s.mgn.peakError)
            { x with mgn := { x.mgn with
              enable := false, quick := none, motion := .atRest, velocity := 0 } })).haltSettled)) ∧
      (s.mgn.motion = .trial → s.isq.line = .held →
        exec .motionTick s = fin (State.trialTick { x with mgn := { x.mgn with enable := false } })))) ∧
  (∀ s : State,
    (∀ f : Feedback,
      s.followAtRest none = s ∧
      s.followAtRest (some f) =
        if s.mgn.enable = true ∨ s.isq.line = .halted then s
        else { s with mgn := { s.mgn with
          commanded := if f.position.natAbs ≤ s.mgn.settings.band then 0
            else max 0 (min f.position s.mgn.settings.stroke) } }) ∧
    (∀ (g : Int) (a : State),
      (s.mgn.sent = none ∨ (∃ sp, s.mgn.sent = some sp ∧ sp.enable = false) → a = s) →
      (∀ (sp : Setpoint) (e n : Nat), s.mgn.sent = some sp → sp.enable = true → e = (sp.position - g).natAbs →
        n = (if s.mgn.settings.errorLimit < e then s.mgn.errorCount + 1 else 0) →
        a = (if s.mgn.settings.persistence ≤ n then
            State.raiseCause .following []
              { s with mgn := { s.mgn with peakError := max s.mgn.peakError e, errorCount := 0 } }
          else { s with mgn := { s.mgn with peakError := max s.mgn.peakError e, errorCount := n } })) →
      s.measure g =
        if (a.handOver g).2 = true then (a.handOver g).1.raiseCause .camCheck [] else (a.handOver g).1) ∧
    (∀ (p : Plan) (v : Nat) (x : Int) (last : Bool), s.mgn.plan = some p →
      v = p.velocityAt s.mgn.settings.acceleration (p.sent + 1) → last = decide (p.total ≤ p.sent + 1) →
      x = (match p.direction with | .advance => s.mgn.commanded + v | .returning => s.mgn.commanded - v) →
      s.movePlan = { s with mgn := { s.mgn with
        plan := some { p with sent := p.sent + 1 }, velocity := if last then 0 else v
        commanded := max 0 (min x s.mgn.settings.stroke)
        motion := if last then .settling else s.mgn.motion
        settleTimer := if last then some s.mgn.settings.settle else s.mgn.settleTimer } }) ∧
    (s.mgn.motion ≠ .settling → s.takeSettle = s) ∧
    (∀ (p : Plan) (g : Int), s.mgn.motion = .settling → s.mgn.plan = some p → s.mgn.lastFeedback = some g →
      s.takeSettle =
        if (g - p.target).natAbs ≤ s.mgn.settings.band then s.settleStroke.strokeDone else s) ∧
    (∀ q : QuickStop, s.mgn.quick = some q →
      (∀ (v : Nat) (x : Int), s.mgn.motion = .stopping → s.mgn.velocity = s.mgn.settings.quickStop + v → 0 < v →
        x = (match q.direction with | .advance => s.mgn.commanded + v | .returning => s.mgn.commanded - v) →
        s.quickTick = { s with mgn := { s.mgn with
          quick := some { q with ticks := q.ticks + 1 }, velocity := v
          commanded := max 0 (min x s.mgn.settings.stroke) } }) ∧
      (s.mgn.motion = .stopping → s.mgn.velocity ≤ s.mgn.settings.quickStop →
        s.quickTick = (s.finishQuick q).haltSettled) ∧
      (∀ t : State,
        t = State.report
          (.strokeEnd q.direction .stopped q.ticks s.mgn.commanded s.mgn.lastFeedback s.mgn.settleTime s.mgn.peakError)
          { s with mgn := { s.mgn with
            motion := .atRest, velocity := 0, quick := none, enable := s.mgn.enable && !q.enableOff } } →
        (q.trial = none → s.finishQuick q = t) ∧ (∀ e, q.trial = some e → s.finishQuick q = t.endTrial e))) ∧
    (∀ (p : Plan) (e : TrialEnding) (off : Bool) (v : Nat) (q : QuickStop) (t : State), s.mgn.plan = some p →
      s.mgn.motion = .moving ∨ s.mgn.motion = .settling ∨ s.mgn.motion = .trial →
      v = (if s.mgn.motion = .settling then 0 else s.mgn.velocity) →
      q = { direction := p.direction, ticks := 0, enableOff := off
            trial := if s.mgn.motion = .trial then some e else none } →
      t = { s with
        cam := { s.cam with stroke := none }
        mgn := { s.mgn with plan := none, settleTimer := none, motion := .stopping, quick := some q, velocity := v } } →
      s.quickStop e off = if v ≤ s.mgn.settings.quickStop then t.finishQuick q else t) ∧
    (∀ r : HaltRecord, s.isq.haltRecord = some r →
      s.haltSettled =
        if s.isq.line = .halted ∧ r.stopping = true then
          State.report (.haltSettled r.cause r.phase s.mgn.commanded r.secondary) { s with isq := { s.isq with
            haltRecord := some { r with bar := s.mgn.commanded, stopping := false } } }
        else s)) ∧
  ∀ (p : Setpoint) (byte : Nat → Byte) (m : Nat), (∀ j, byte j = BitVec.ofNat 8 j) → (m : Int) = p.position % 4294967296 →
    ∃ k : Byte,
      p.bytes = [0x5A, if p.enable then 1 else 0, byte (m / 16777216), byte (m / 65536), byte (m / 256), byte m,
        byte p.sequence, k] ∧
      (p.bytes.map BitVec.toNat).sum % 256 = 0

/-- Every step keeps the register sound: the records and the three places of every id, the map, the return queue and the
room for the discharge, the position-0 state with slot 0, a load disagreement in READY alone (R4 to R9, R38, R141). Every
step keeps the equipment sound: the units with START (R52, R73 to R75, R89), the commanded position within 0..S (R119), at
most one bank ACTIVE and one ARMED (R129). -/
def Obligations.EveryStepKeepsThePartSound : Prop :=
  (∀ s t : State, s.RegisterSound → step s = .next t → t.RegisterSound) ∧
    ∀ s t : State, s.EquipmentSound → step s = .next t → t.EquipmentSound

/-- A point fires when the bar crosses it: above p0 and not above p1 in ADVANCE, below p0 and not below p1 in RETURN. A
hand-over fires exactly the points of the record's bank and direction that are crossed and not in the fired set, in
stroke order, and nothing without a bank or a previous position (R135, R136). In a live stroke AUX_ON and AUX_OFF set
the output, MARK reports, a CHECK of the level seen is silent, and a CHECK of the other level reports, closes the
stroke record and fails (R137, R138). In a trial each point is reported and counted and nothing is carried out; a tick
of a trial moves the commanded position and hands it over, the return follows the advance, and the end reports every
point that did not fire and the counts (R125, R140). The model's choices and readings: an absent previous position
fires nothing (log 32), the settle of a trial stroke (log 17), the fields of CAM TRIAL (logs 54, 66, 72). -/
def Obligations.CamPointsFireByTheirAction : Prop :=
  (∀ (p0 p1 : Int) (P : Nat), (crossed .advance p0 p1 P = true ↔ p0 < P ∧ (P : Int) ≤ p1) ∧
    (crossed .returning p0 p1 P = true ↔ (P : Int) < p0 ∧ p1 ≤ P)) ∧
  (∀ (s : State) (r : StrokeRecord) (p1 : Int),
    (r.bank = none ∨ r.previous = none → s.crossings r p1 = []) ∧
    (∀ (id : BankId) (p0 : Int) (i : Nat) (p : CamPoint), r.bank = some id → r.previous = some p0 →
      ((i, p) ∈ s.crossings r p1 ↔
        (s.cam.bank id).points[i]? = some p ∧ p.stroke = r.direction ∧ i ∉ r.fired ∧
          (match r.direction with
            | .advance => p0 < (p.position : Int) ∧ (p.position : Int) ≤ p1
            | .returning => (p.position : Int) < p0 ∧ p1 ≤ (p.position : Int)))) ∧
    ((s.crossings r p1).map Prod.fst).Nodup ∧
    (s.crossings r p1).Pairwise fun a b =>
      match r.direction with
      | .advance => a.2.position ≤ b.2.position
      | .returning => b.2.position ≤ a.2.position) ∧
  (∀ (s : State) (p1 : Int),
    (s.cam.stroke = none → s.handOver p1 = (s, false)) ∧
    ∀ (r : StrokeRecord) (t : State), s.cam.stroke = some r →
      t = { s with cam := { s.cam with stroke := some { r with previous := some p1 } } } →
      (r.bank = none → s.handOver p1 = (t, false)) ∧
      (∀ id, r.bank = some id →
        (r.live = true → s.handOver p1 = fireLive id r.direction p1 (s.crossings r p1) t) ∧
        (r.live = false → s.handOver p1 = (t.fireTrial id r.direction p1 (s.crossings r p1), false)))) ∧
  (∀ (s : State) (r : StrokeRecord) (id : BankId) (d : Direction) (p1 : Int) (i : Nat) (p : CamPoint)
      (l : List (Nat × CamPoint)) (fired : List Bool → State), s.cam.stroke = some r → r.live = true →
    (∀ aux, fired aux = { s with cam := { s.cam with stroke := some { r with fired := r.fired ++ [i] }, aux := aux } }) →
    fireLive id d p1 [] s = (s, false) ∧
    (∀ k, p.action = .auxOn k → fireLive id d p1 ((i, p) :: l) s = fireLive id d p1 l (fired (s.cam.aux.set k true))) ∧
    (∀ k, p.action = .auxOff k →
      fireLive id d p1 ((i, p) :: l) s = fireLive id d p1 l (fired (s.cam.aux.set k false))) ∧
    (p.action = .mark →
      fireLive id d p1 ((i, p) :: l) s =
        fireLive id d p1 l (State.report (.camMark id i d p.position p1) (fired s.cam.aux))) ∧
    (∀ k e, p.action = .check k e → s.auxInput k = e →
      fireLive id d p1 ((i, p) :: l) s = fireLive id d p1 l (fired s.cam.aux)) ∧
    (∀ k e, p.action = .check k e → s.auxInput k ≠ e →
      fireLive id d p1 ((i, p) :: l) s =
        (State.report (.camCheckFailed id i d p.position k e (s.auxInput k) p1)
          { s with cam := { s.cam with stroke := none } }, true))) ∧
  (∀ (s : State) (r : StrokeRecord) (id : BankId) (p1 : Int) (i : Nat) (p : CamPoint), s.cam.stroke = some r →
    r.live = true → r.bank = some id → s.crossings r p1 = [(i, p)] →
    (∀ k, p.action = .auxOn k → (s.handOver p1).2 = false ∧ (s.handOver p1).1.cam.aux = s.cam.aux.set k true ∧
      (s.handOver p1).1.cam.stroke = some { r with previous := some p1, fired := r.fired ++ [i] }) ∧
    (∀ k, p.action = .auxOff k → (s.handOver p1).2 = false ∧ (s.handOver p1).1.cam.aux = s.cam.aux.set k false) ∧
    (∀ k e, p.action = .check k e → s.auxInput k = e → (s.handOver p1).2 = false ∧
      (s.handOver p1).1.cam.aux = s.cam.aux ∧ (s.handOver p1).1.clu = s.clu) ∧
    (∀ k e, p.action = .check k e → s.auxInput k ≠ e → (s.handOver p1).2 = true ∧
      (s.handOver p1).1.cam.stroke = none ∧ (s.handOver p1).1.cam.aux = s.cam.aux)) ∧
  (∀ (s : State) (r : StrokeRecord) (k : TrialRecord) (id : BankId) (d : Direction) (p1 : Int) (i : Nat) (p : CamPoint)
      (l : List (Nat × CamPoint)) (t : TrialOutcome → Option Bool → TrialRecord → State), s.cam.stroke = some r →
    r.live = false → s.cam.trial = some k →
    (∀ o seen k', t o seen k' =
      State.report (.camTrial id i d p.position p.action (some p1) o seen (s.nodeLost 30)) { s with
        cam := { s.cam with
          stroke := some { r with fired := r.fired ++ [i] }, trial := some { k' with fired := k.fired ++ [i] } } }) →
    s.fireTrial id d p1 [] = s ∧
    (p.action = .mark ∨ (∃ n, p.action = .auxOn n ∨ p.action = .auxOff n) →
      s.fireTrial id d p1 ((i, p) :: l) =
        (t .wouldApply none { k with wouldApply := k.wouldApply + 1 }).fireTrial id d p1 l) ∧
    (∀ n e, p.action = .check n e →
      s.fireTrial id d p1 ((i, p) :: l) =
        (if s.auxInput n = e then t .checkPass (some e) { k with checkPass := k.checkPass + 1 }
          else t .checkFail (some !e) { k with checkFail := k.checkFail + 1 }).fireTrial id d p1 l)) ∧
  (∀ (s : State) (e : TrialEnding) (k : TrialRecord) (u : List (Nat × CamPoint)) (v : State),
    (s.cam.trial = none → s.endTrial e = s) ∧
    (s.cam.trial = some k →
      u = ((List.range (s.cam.bank k.bank).points.length).zip (s.cam.bank k.bank).points).filter (fun x => x.1 ∉ k.fired) →
      v = u.foldl (fun t x => t.report (.camTrial k.bank x.1 x.2.stroke x.2.position x.2.action none .notEvaluated none
        (s.nodeLost 30))) s →
      s.endTrial e =
        State.modBank k.bank (fun b => { b with underTrial := false })
          (State.report
            (.trialDone k.bank e k.wouldApply k.checkPass k.checkFail (k.notEvaluated + u.length))
            { v with cam := { s.cam with trial := none, stroke := none } }))) ∧
  ∀ (s z : State) (p : Plan) (v : Nat) (x : Int), s.mgn.plan = some p →
    v = p.velocityAt s.mgn.settings.acceleration (p.sent + 1) →
    x = (match p.direction with | .advance => s.mgn.commanded + v | .returning => s.mgn.commanded - v) →
    z = (State.handOver (max 0 (min x s.mgn.settings.stroke)) { s with mgn := { s.mgn with
      plan := some { p with sent := p.sent + 1 }, velocity := v
      commanded := max 0 (min x s.mgn.settings.stroke) } }).1 →
    (p.sent + 1 < p.total → s.trialTick = z) ∧
    (∀ y : State, p.total ≤ p.sent + 1 →
      y = State.report (.strokeEnd p.direction .settled (p.sent + 1) z.mgn.commanded z.mgn.lastFeedback z.mgn.settleTime
        z.mgn.peakError) { z with cam := { z.cam with stroke := none } } →
      (p.direction = .returning →
        s.trialTick =
          State.endTrial .completed { y with mgn := { y.mgn with plan := none, motion := .atRest, velocity := 0 } }) ∧
      (∀ q : Plan, p.direction = .advance →
        q = makePlan s.mgn.settings .returning s.mgn.settings.stroke 0 s.mgn.settings.stroke →
        s.trialTick =
          State.report (.strokePlan q) { y with
            mgn := { y.mgn with
              plan := some q, velocity := 0, peakError := 0, settleTime := 0, commanded := s.mgn.settings.stroke }
            cam := { y.cam with
              stroke := some
                { direction := .returning, live := false, bank := y.cam.trial.map TrialRecord.bank
                  previous := some s.mgn.settings.stroke, fired := [] } } }))

/-! ## The feed (R143 to R150) -/

/-- The commands of the feed. The start conditions of the two modes (R143). FEED_START in GATE mode with the locator out
opens the gate with the head expected; with it not out it makes the request UNLOCATE first, met at once where LOC_OUT is
on and LOC_IN off (R97, R144). In IN_PLACE mode it makes the request LOCATE, and where LOC_IN is on READING begins at once
(R97, R145, R146). The feed timer's expiry ends the feed at stage ARRIVAL with position 0 EMPTY and the load hold set, in
RUNNING with HELD from WAIT or hold-pending from another phase, in HELD and in HALTED with the line as it was (R45, R62, R144, R149). The read timer's expiry gives NOREAD to resolution, judged
at the end of the event; it takes the expected pallet unverified, or fails with none expected (R146, R147). The load-wait
timer's expiry reports, and under WAIT nothing else happens, under RUN_EMPTY position 0 becomes READY (R150). FEED_START
judging the start conditions again, the feed judged before readiness at the end of the event, is the model's choice (log
7), as are the timers' counts at 0 (log 1), a request opened anew in place of an open one (log 34) and the order of LOAD
STATE and the other report of FDU (log 58). -/
def Obligations.FeedCommandsMovePositionZero : Prop :=
  ∀ s : State, s.Calm →
    (s.feedMode = some .gate → s.loadLocatorOut = true →
      ∃ t, exec .feedStart s = .next t ∧
        t.fdu = { s.fdu with
          state := .feeding, expected := s.prg.queue.head?, mode := some .gate, gate := true, loadWait := none
          feedTimer := some (s.fdu.settings.feed * 1000) } ∧
        t.prg.map = s.prg.map ∧ t.prg.queue = s.prg.queue ∧ t.prg.records = s.prg.records ∧ t.isq = s.isq ∧
        t.sct = s.sct ∧ t.stu = s.stu ∧ t.rtb = s.rtb ∧ t.mgn = s.mgn ∧ t.cam = s.cam ∧ t.rgc = s.rgc) ∧
    (∀ may : Prop,
      (may ↔ s.fdu.state = .empty ∧ s.feedPermit = true ∧ s.fdu.loadHold = false ∧ s.nodeLost 0 = false) →
      (s.feedMode = some .gate ↔ may ∧ (s.image 0).present = false ∧ s.prg.queue ≠ [] ∧ (s.image 30).head = true ∧
        s.nodeLost 30 = false) ∧
      (s.feedMode = some .inPlace ↔ may ∧ (s.image 0).present = true) ∧
      (s.loadLocatorOut = true ↔ s.commandedSide (.locator 0) = some .disengage ∧ (s.image 0).locOut = true ∧
        (s.image 0).locIn = false)) ∧
    (∀ (m : FeedMode) (id : RequestId) (x : Side) (met : Prop),
      (s.feedMode = some .gate ∧ s.loadLocatorOut = false ∧ m = .gate ∧ id = .releaseLoad ∧ x = .disengage ∧
          (met ↔ (s.image 0).locOut = true ∧ (s.image 0).locIn = false)) ∨
        (s.feedMode = some .inPlace ∧ m = .inPlace ∧ id = .seatLoad ∧ x = .engage ∧ (met ↔ (s.image 0).locIn = true)) →
      ∃ t, exec .feedStart s = .next t ∧
        (¬met → t.fdu = { s.fdu with
          state := if m = .gate then .feeding else .seating, expected := s.prg.queue.head?, mode := some m
          loadWait := none }) ∧
        (met → m = .gate → t.fdu = { s.fdu with
          state := .feeding, expected := s.prg.queue.head?, mode := some .gate, gate := true, loadWait := none
          feedTimer := some (s.fdu.settings.feed * 1000) }) ∧
        (met → m = .inPlace → t.fdu = { s.fdu with
          state := .reading, expected := s.prg.queue.head?, mode := some .inPlace, read := true, loadWait := none
          readTimer := some s.fdu.settings.read }) ∧
        (¬met → t.sct.requests = s.sct.requests.filter (·.id ≠ id) ++ [{ id := id, timer := s.sct.settings.locate }]) ∧
        (met → t.sct.requests = s.sct.requests.filter (·.id ≠ id)) ∧
        (∀ ch, s.channel (.locator 0) = some ch → ch.pulse = none →
          t.channel (.locator 0) =
            some { pulse := some { side := x, timer := s.sct.settings.pulse, requesters := [.position] }
                   commanded := some x, pending := none } ∧
          t.isq = if x = .engage then { s.isq with withdrawn := false } else s.isq) ∧
        { t.sct with locators := s.sct.locators, requests := s.sct.requests } = s.sct ∧
        (∀ p, 1 ≤ p → t.channel (.locator p) = s.channel (.locator p)) ∧
        t.prg.map = s.prg.map ∧ t.prg.queue = s.prg.queue ∧ t.prg.records = s.prg.records ∧
        t.stu = s.stu ∧ t.rtb = s.rtb ∧ t.mgn = s.mgn ∧ t.cam = s.cam ∧ t.rgc = s.rgc) ∧
    (s.feedMode = none → exec .feedStart s = .next s.flushOverflow) ∧
    (∀ (c : Instr), s.isq.line = .running →
      (c = .feedTimeout ∧ s.fdu.state = .feeding ∧ s.fdu.gate = true ∧ s.fdu.feedTimer = some 0) ∨
        (c = .readTimeout ∧ s.fdu.state = .reading ∧ s.fdu.readTimer = some 0 ∧ s.fdu.expected = none) →
      ∃ t, exec c s = .next t ∧
        t.fdu = { s.fdu with
          state := .empty, loadHold := true, gate := false, read := false, feedTimer := none, readTimer := none
          loadWait := none, expected := none, mode := none } ∧
        t.isq = (if s.isq.phase = some .wait then
            { s.isq with line := .held, phase := none, holdPending := false, waitTimer := none }
          else { s.isq with holdPending := true }) ∧
        t.prg.map = s.prg.map ∧ t.prg.queue = s.prg.queue ∧ t.prg.records = s.prg.records ∧
        t.stu = s.stu ∧ t.rtb = s.rtb ∧ t.mgn = s.mgn ∧ t.cam = s.cam ∧ t.rgc = s.rgc) ∧
    (s.fdu.state = .feeding → s.fdu.gate = true → s.fdu.feedTimer = some 0 →
      exec .feedTimeout s = .next (State.flushOverflow (State.judgeReady (s.failFeed .arrival .timeout)))) ∧
    (s.fdu.state ≠ .feeding ∨ s.fdu.gate = false ∨ s.fdu.feedTimer ≠ some 0 →
      exec .feedTimeout s = .next s.flushOverflow) ∧
    (s.fdu.state ≠ .reading ∨ s.fdu.readTimer ≠ some 0 → exec .readTimeout s = .next s.flushOverflow) ∧
    (s.fdu.state ≠ .awaitingBlock ∨ s.fdu.loadWait ≠ some 0 → exec .loadWaitExpired s = .next s.flushOverflow) ∧
    (s.fdu.state = .reading → s.fdu.readTimer = some 0 →
      exec .readTimeout s = .next (State.flushOverflow (State.judge (State.resolve (.noread .timeout)
        { s with fdu := { s.fdu with read := false, readTimer := none } })))) ∧
    (∀ (c : Instr), s.isq.line ≠ .running →
      (c = .feedTimeout ∧ s.fdu.state = .feeding ∧ s.fdu.gate = true ∧ s.fdu.feedTimer = some 0) ∨
        (c = .readTimeout ∧ s.fdu.state = .reading ∧ s.fdu.readTimer = some 0 ∧ s.fdu.expected = none) →
      ∃ t, exec c s = .next t ∧
        t.fdu = { s.fdu with
          state := .empty, loadHold := true, gate := false, read := false, feedTimer := none, readTimer := none
          loadWait := none, expected := none, mode := none } ∧
        t.prg.map = s.prg.map ∧ t.prg.queue = s.prg.queue ∧ t.prg.records = s.prg.records ∧ t.isq = s.isq ∧
        t.stu = s.stu ∧ t.rtb = s.rtb ∧ t.mgn = s.mgn ∧ t.cam = s.cam ∧ t.rgc = s.rgc) ∧
    (∀ (id : Nat) (rest : List Nat) (r : Pallet), s.fdu.state = .reading →
      s.fdu.readTimer = some 0 → s.fdu.expected = some id → s.prg.queue = id :: rest → s.slot 0 = .empty →
      s.prg.map ≠ [] → s.record id = some r → r.block = none →
      ∃ t, exec .readTimeout s = .next t ∧ t.prg.queue = rest ∧ t.prg.map = s.prg.map.set 0 (.pallet id) ∧
        t.prg.records = (s.prg.records.map fun x => if x.id = id then { x with unverified := true } else x) ∧
        t.fdu = { s.fdu with
          state := .awaitingBlock, gate := false, read := false, feedTimer := none, readTimer := none
          expected := none, mode := none, loadWait := some (s.fdu.settings.loadWait * 1000) } ∧
        t.isq = s.isq ∧ t.stu = s.stu ∧ t.rtb = s.rtb ∧ t.mgn = s.mgn ∧ t.cam = s.cam ∧ t.rgc = s.rgc) ∧
    (s.fdu.state = .awaitingBlock → s.fdu.loadWait = some 0 →
      (s.fdu.settings.policy = .wait →
        exec .loadWaitExpired s =
          .next ((State.report (.loadWaitExpired ((s.palletAt 0).getD 0) .wait)
            { s with fdu := { s.fdu with loadWait := none } }).flushOverflow)) ∧
      (s.fdu.settings.policy = .runEmpty →
        exec .loadWaitExpired s = .next (State.flushOverflow (State.judgeReady (State.toLoad .ready
          (State.report (.loadWaitExpired ((s.palletAt 0).getD 0) .runEmpty)
            { s with fdu := { s.fdu with loadWait := none } }))))) ∧
      (s.fdu.settings.policy = .runEmpty → ¬(s.isq.line = .running ∧ s.isq.phase = some .wait) →
        ∃ t, exec .loadWaitExpired s = .next t ∧ t.fdu = { s.fdu with state := .ready, loadWait := none } ∧
          t.prg.records = s.prg.records ∧ t.prg.map = s.prg.map ∧ t.prg.queue = s.prg.queue ∧ t.isq = s.isq ∧
          t.stu = s.stu ∧ t.sct = s.sct ∧ t.rtb = s.rtb ∧ t.mgn = s.mgn ∧ t.cam = s.cam ∧ t.rgc = s.rgc))

/-- The judgement of the four digit fields, in its order (R146). The resolution of a read by the rows of R147. Position
0's changes: the arrival ends the gate and seats the pallet (R144, R145), an answer is taken in READING (R146), PRESENT
dropping clears the load hold and fails a feed past its arrival or ends FOREIGN (R145, R146, R148, R149), BLOCK brings
the load check (R38). The unload watch's changes and judgements (R39 to R41). The seat watch (R63). A feed fault, the
change of the position-0 state and the setting of hold-pending written out (R45, R141, R149, R150). The model's
choices: a hold alone is a LOAD STATE (log 29), the order of the changes of one image (log 9), SEAT LOST before the
reports of FDU (log 8), the expected id absent in FEED REORDERED and FEED CONFLICT when none was expected (log 22), a
request opened anew in place of an open one (log 34), the order of LOAD STATE and the other report of FDU (log 58),
BLOCK CARRIED after the load check of LOAD STATE (log 63), no BLOCK CARRIED at SLOT_TAKEN (log 73), SEAT LOST before
LINE STATE (log 75), the load hold first cleared by a PRESENT drop and then set by the FEED FAULT it raises (log 77). -/
def Obligations.CodeFieldsAreJudged : Prop :=
  (∀ i : InputImage,
    ((9 < i.d2 ∨ 9 < i.d1 ∨ 9 < i.d0 ∨ 9 < i.c) → readCode i = .noread .digit) ∧
    (i.d2 ≤ 9 → i.d1 ≤ 9 → i.d0 ≤ 9 → i.c ≤ 9 → i.c ≠ (3 * i.d2 + 7 * i.d1 + 9 * i.d0) % 10 →
      readCode i = .noread .check) ∧
    (∀ id, id = 100 * i.d2 + 10 * i.d1 + i.d0 → i.d2 ≤ 9 → i.d1 ≤ 9 → i.d0 ≤ 9 →
      i.c = (3 * i.d2 + 7 * i.d1 + 9 * i.d0) % 10 →
      ((1 ≤ id ∧ id ≤ 250) → readCode i = .id id) ∧ (¬(1 ≤ id ∧ id ≤ 250) → readCode i = .noread .range))) ∧
  (∀ (s u : State) (take : Nat → Nat → Bool → Report → State), s.slot 0 = .empty → s.prg.map ≠ [] → u = s.endFeed →
    (∀ (k id : Nat) (verified : Bool) (rep : Report) (v : State),
      v = State.report rep { u with prg := { s.prg with
        queue := s.prg.queue.eraseIdx (k - 1), map := s.prg.map.set 0 (.pallet id)
        records := s.prg.records.map fun q => if q.id = id then { q with unverified := !verified } else q } } →
      take k id verified rep =
        match v.blockAt 0 with
        | some x => (v.toLoad .ready).report (.blockCarried id x.serial x.disposition x.lock x.log.length)
        | none => v.toLoad .awaitingBlock) →
    (∀ (id : Nat) (rest : List Nat), s.fdu.expected = some id → s.prg.queue = id :: rest →
      s.resolve (.id id) = take 1 id true (.feedMatched id)) ∧
    (∀ (e : Nat) (rest : List Nat) (why : NoreadReason), s.fdu.expected = some e → s.prg.queue = e :: rest →
      s.resolve (.noread why) = take 1 e false (.feedNoread e why)) ∧
    (∀ why : NoreadReason, s.fdu.expected = none → s.resolve (.noread why) = s.failFeed .read .noExpected) ∧
    (∀ (id k : Nat) (a b : List Nat), s.fdu.expected ≠ some id → s.prg.queue = a ++ id :: b → id ∉ a → k = a.length + 1 →
      1 < k → s.resolve (.id id) = take k id true (.feedReordered id k s.fdu.expected)) ∧
    (∀ id : Nat, id ∉ s.prg.queue → s.record id = none →
      s.resolve (.id id) =
        State.toLoad .foreign (State.report (.feedForeign id s.fdu.expected)
          { u with prg := { s.prg with map := s.prg.map.set 0 (.foreign id) } })) ∧
    (∀ (id : Nat) (q : Pallet), id ∉ s.prg.queue → s.record id = some q →
      s.resolve (.id id) =
        State.setHold .alarm (State.toLoad .foreign (State.report (.feedConflict id (s.location id) s.fdu.expected)
          { u with prg := { s.prg with map := s.prg.map.set 0 (.foreign id) } })))) ∧
  (∀ (s : State) (res : ReadResult), s.slot 0 ≠ .empty → s.fdu.expected ≠ none →
    s.resolve res =
      s.failFeedTo (match s.slot 0 with
        | .empty => .empty
        | .foreign _ => .foreign
        | .pallet _ => if s.blockAt 0 = none then .awaitingBlock else .ready) .resolve .slotTaken) ∧
  (∀ s : State,
    (∀ (l : LoadState) (stage : FeedStage) (why : FeedReason),
      s.failFeed stage why = s.failFeedTo .empty stage why ∧
      s.failFeedTo l stage why =
        State.setHold .alarm (State.report (.feedFault stage why s.fdu.expected (s.image 0).present)
          (s.endFeed.setLoad l true))) ∧
    (∀ (l : LoadState) (hold : Bool) (t : State),
      t = { s with fdu := { s.fdu with
        state := l, loadHold := hold
        loadWait := if l = .awaitingBlock then
            (if s.fdu.state = .awaitingBlock then s.fdu.loadWait else some (s.fdu.settings.loadWait * 1000))
          else none } } →
      s.setLoad l hold =
        if s.fdu.state = l then
          (if s.fdu.loadHold = hold then t else t.report (.loadState l l (s.slot 0) hold))
        else (t.report (.loadState s.fdu.state l (s.slot 0) hold)).loadCheck) ∧
    (∀ l : LoadState, s.toLoad l = s.setLoad l s.fdu.loadHold) ∧
    (∀ y t : State, y = s.toLoad .seating →
      t = State.requestPulse (.locator 0) .engage .position { y with sct := { s.sct with
        requests := s.sct.requests.filter (·.id ≠ .seatLoad) ++ [{ id := .seatLoad, timer := s.sct.settings.locate }] } } →
      s.enterSeating =
        if (s.image 0).locIn = true then
          State.enterReading { t with sct := { t.sct with requests := t.sct.requests.filter (·.id ≠ .seatLoad) } }
        else t) ∧
    (∀ y : State, y = s.toLoad .reading →
      s.enterReading = { y with fdu := { y.fdu with read := true, readTimer := some s.fdu.settings.read } }) ∧
    (∀ why : LineReason,
      s.setHold why =
        if s.isq.line = .running ∧ s.isq.phase = some .wait then
          State.report (.lineState .held none why) { s with isq := { s.isq with
            line := .held, phase := none, holdPending := false, waitTimer := none } }
        else if s.isq.line = .running then { s with isq := { s.isq with holdPending := true } }
        else s) ∧
    ((∀ r ∈ s.sct.requests, ∃ k, r.id = .reclamp k) →
      s.endFeed = { s with fdu := { s.fdu with
        gate := false, read := false, feedTimer := none, readTimer := none, expected := none, mode := none } })) ∧
  (∀ (s : State) (old new : InputImage), s.image 0 = new →
    (old.present = false → new.present = true → old.block = new.block → s.fdu.state = .feeding →
      s.loadInputs old new =
        State.enterSeating { s.withdrawRequest .releaseLoad with fdu := { s.fdu with gate := false, feedTimer := none } }) ∧
    (old.present = false → new.present = true → old.block = new.block → s.fdu.state ≠ .feeding → s.fdu.state ≠ .reading →
      s.loadInputs old new = s) ∧
    (∀ t u : State, old.present = true → new.present = false → old.block = new.block → old.toggle = new.toggle →
      t = s.seatDrop 0 → u = t.setLoad t.fdu.state false →
      (t.fdu.state = .seating → s.loadInputs old new = u.failFeed .seating .presentLost) ∧
      (t.fdu.state = .reading → s.loadInputs old new = u.failFeed .read .presentLost) ∧
      (∀ id, t.fdu.state = .foreign → s.slot 0 = .foreign id →
        s.loadInputs old new =
          State.toLoad .empty (State.report (.foreignRemoved id)
            { u with prg := { u.prg with map := u.prg.map.set 0 .empty } })) ∧
      (t.fdu.state ∈ [.empty, .feeding, .awaitingBlock, .ready] → s.loadInputs old new = u)) ∧
    (old.present = new.present → old.block = new.block → old.toggle ≠ new.toggle →
      s.loadInputs old new =
        if s.fdu.state = .reading then
          State.resolve (readCode new) { s with fdu := { s.fdu with read := false, readTimer := none } }
        else s) ∧
    (old.present = new.present → old.toggle = new.toggle →
      s.loadInputs old new = if old.block = new.block then s else s.loadCheck)) ∧
  (∀ (s : State) (now : Option Disagreement) (t : State),
    now = (if s.fdu.state ≠ .ready then none else if s.prg.openIndex = true then s.prg.disagreement else
      if s.blockAt 0 = none ∧ (s.image 0).block = true then some .phantom else
      if s.blockAt 0 ≠ none ∧ (s.image 0).block = false then some .missing else none) →
    t = (if s.prg.disagreement = none then { s with prg := { s.prg with disagreement := now } } else
      State.report (.blockAgreed 0) { s with prg := { s.prg with disagreement := now } }) →
    (now = s.prg.disagreement → s.loadCheck = s) ∧
    (now ≠ s.prg.disagreement →
      (now = none → s.loadCheck = t) ∧
      (∀ id, s.palletAt 0 = some id →
        (now = some .phantom → s.loadCheck = t.report (.phantomLoad id)) ∧
        (∀ x, s.blockAt 0 = some x → now = some .missing → s.loadCheck = t.report (.missingBlock id x.serial))))) ∧
  (∀ (s : State) (old new : InputImage) (a : Nat), a = s.n + 1 → s.image a = new → old.present = new.present →
    (old.block = new.block → s.unloadInputs a old new = s) ∧
    (old.block = false → new.block = true →
      s.unloadInputs a old new =
        match s.prg.watch with
        | .idle => State.report (.phantomUnload a (s.palletAt a) s.prg.indexCount)
            { s with prg := { s.prg with watch := .phantom } }
        | .expecting => { s with prg := { s.prg with watch := .present } }
        | _ => s) ∧
    (old.block = true → new.block = false →
      (s.prg.watch = .phantom →
        s.unloadInputs a old new = State.report (.blockAgreed a) { s with prg := { s.prg with watch := .idle } }) ∧
      (∀ (q : Pallet) (x : Block), s.prg.watch = .present → s.unloadPallet = some q → q.block = some x →
        s.unloadInputs a old new =
          State.report (.blockOut q.id q.cycles q.unverified x) { s with prg := { s.prg with
            watch := .idle
            records := s.prg.records.map fun r => if r.id = q.id then { r with block := none } else r } }) ∧
      (s.prg.watch ∈ [.idle, .expecting, .deferred] → s.unloadInputs a old new = s)) ∧
    (∀ w : Watch,
      w = (if s.blockAt a = none then (if new.block = true then .phantom else .idle)
        else if new.block = true then .present else .expecting) →
      s.judgeWatch =
        if w = .phantom ∧ s.prg.watch ≠ .phantom then
          State.report (.phantomUnload a (s.palletAt a) s.prg.indexCount) { s with prg := { s.prg with watch := w } }
        else { s with prg := { s.prg with watch := w } })) ∧
  (∀ (s : State) (p : Nat),
    (s.palletAt p = none → s.seatDrop p = s) ∧
    (∀ id, s.palletAt p = some id →
      (s.isq.line = .held → s.seatDrop p = s.report (.seatLost p id)) ∧
      (s.isq.line = .running → s.isq.phase = some .wait →
        s.seatDrop p = State.report (.lineState .held none .alarm) { s.report (.seatLost p id) with
          isq := { s.isq with line := .held, phase := none, holdPending := false, waitTimer := none } }) ∧
      (∀ ph, s.isq.line = .running → s.isq.phase = some ph → ph ≠ .wait →
        s.seatDrop p =
          if ph = .release ∨ ph = .withdraw ∨ ph = .returning then s.enterHalted .seatLoss [p] else s) ∧
      (∀ r, s.isq.line = .halted → s.isq.haltRecord = some r →
        s.seatDrop p =
          if r.phase = .release ∨ r.phase = .withdraw ∨ r.phase = .returning then s.addCause .seatLoss [p] else s)))

/-! ## The ring (R179 to R181, R183) -/

/-- RING_SCAN sends the output image of every listed node (Table 11-1) under the next sequence, and first counts a frame
still out as unanswered by every node. The frame of the scan as it leaves the part (R183). A frame with a wrong CRC is a
scan without an answer for every node. A frame of the scan is judged slot by slot: the images of the answering nodes are
held, each outcome is handed over, and then the waits of the valves, the feed and readiness are judged (R53, R97, R105,
R143, R179, R180, R183). A slot with its address, its mark and its check right gives the levels of Table 11-1. The third
miss in a row is NODE LOST, handed to the line, the unit and the feed, in the order R181 lists them (R66, R87, R152, R181;
their reports in that order, log 8); an answer is NODE RETURNED after a loss, the starting levels at the first image, else
the changes go to the owners, and then the notice START waits for (R89, R111, R179 to R181). The model's choices and
readings: the feed judged before readiness (log 7), the order of delivery (log 9), the levels before a first image (log
10), a frame of no scan (log 12), DONE seen off taken from the level at the notice (log 19), no load check at the first
image of position 0 (log 49), a slot with another address byte (log 60), the notice after the changes (log 61), slot bytes
4 to 6 sent as 0 (log 62), the outputs of a scan that starts as a frame is counted taken after the counting (log 76), the
nodes without an answer counted and their losses handed over one by one in the order of the frame (log 78). -/
def Obligations.RingScansAndAnswers : Prop :=
  (∀ (s : State) (opened : State → State), s.Calm →
    (∀ t, opened t = { t with rgc := { t.rgc with
      scan := some { sequence := t.rgc.sequence
                     carried := t.rgc.nodes.map fun nd => (nd.addr, t.outputImage nd.addr) }
      sequence := (t.rgc.sequence + 1) % 256 } }) →
    (s.rgc.scan = none → exec .ringScan s = .next (opened s).flushOverflow) ∧
    (∀ c, s.rgc.scan = some c →
      exec .ringScan s =
        .next (opened (State.judge ((c.carried.map Prod.fst).foldl (fun t a => t.missNode a) s))).flushOverflow)) ∧
  (∀ (s : State) (on : ChannelId → Side → Bool),
    (∀ c x, on c x = true ↔ ∃ ch p, s.channel c = some ch ∧ ch.pulse = some p ∧ p.side = x) →
    s.outputImage 30 = { OutputImage.off with
      gate := s.fdu.gate, raise := on .lift .engage, lower := on .lift .disengage, aux := s.cam.aux } ∧
    s.outputImage 0 = { OutputImage.off with
      locate := on (.locator 0) .engage, unlocate := on (.locator 0) .disengage, read := s.fdu.read } ∧
    (∀ k, 1 ≤ k → k ≤ s.n → k ≠ 30 →
      s.outputImage k = { OutputImage.off with
        start := (s.unit k).start, program := (s.unit k).programOut, clamp := on (.clamp k) .engage
        unclamp := on (.clamp k) .disengage, locate := on (.locator k) .engage
        unlocate := on (.locator k) .disengage }) ∧
    (s.n ≠ 29 → s.outputImage (s.n + 1) = { OutputImage.off with
      locate := on (.locator (s.n + 1)) .engage, unlocate := on (.locator (s.n + 1)) .disengage })) ∧
  (∀ s : State, (s.rgc.scan = none → s.ringFrame = none) ∧
    ∀ (c : Scan) (outputs : Nat → OutputImage → List Bool) (second : Nat → OutputImage → Byte)
        (slot : Nat × OutputImage → List Byte) (body : List Byte), s.rgc.scan = some c →
      (∀ a o, outputs a o =
        if a = 30 then [o.gate, o.raise, o.lower] else if a = 0 then [o.locate, o.unlocate, o.read]
        else if a = s.n + 1 then [o.locate, o.unlocate] else [o.start, o.clamp, o.unclamp, o.locate, o.unlocate]) →
      (∀ a o, (a = 30 → ∀ i, i < 8 → (second a o).getLsbD i = o.aux.getD i false) ∧
        (a ≠ 30 → second a o = if a = 0 ∨ a = s.n + 1 then 0 else BitVec.ofNat 8 o.program)) →
      (∀ a o, ∃ x k : Byte, slot (a, o) = [BitVec.ofNat 8 a, 0, x, second a o, 0, 0, 0, k] ∧
        (∀ i, i < 8 → x.getLsbD i = (outputs a o).getD i false) ∧ ((slot (a, o)).map BitVec.toNat).sum % 256 = 0) →
      body = [0x3C, BitVec.ofNat 8 c.sequence, BitVec.ofNat 8 c.carried.length, 0] ++ c.carried.flatMap slot →
      s.ringFrame = some (body ++ u16 (crc16 body).toNat)) ∧
  (∀ (s : State) (l : List Byte), s.Calm →
    (s.rgc.scan = none → exec (.ringFrameReceived l) s = .next s.flushOverflow) ∧
    (∀ (c : Scan) (u : State) (judged : State → State) (head : List Byte), s.rgc.scan = some c →
      u = { s with rgc := { s.rgc with scan := none } } →
      (∀ t, judged t = State.judge (State.judgeRequests (State.judgeCommand t))) →
      head = [0x3C, BitVec.ofNat 8 c.sequence, BitVec.ofNat 8 c.carried.length, 0x00] →
      ((∀ body, l ≠ body ++ u16 (crc16 body).toNat) →
        exec (.ringFrameReceived l) s =
          .next (judged ((c.carried.map Prod.fst).foldl (fun t a => t.missNode a) u)).flushOverflow) ∧
      (∀ body, l = body ++ u16 (crc16 body).toNat →
        (∀ slots, slots.length = 8 * c.carried.length → body ≠ head ++ slots) →
        exec (.ringFrameReceived l) s = .next s.flushOverflow) ∧
      (∀ (body : List Byte) (slots : List (Nat × OutputImage × List Byte)) (held v : State),
        l = body ++ u16 (crc16 body).toNat → body = head ++ slots.flatMap (fun e => e.2.2) →
        slots.map (fun e => (e.1, e.2.1)) = c.carried → (∀ e ∈ slots, e.2.2.length = 8) →
        held = slots.foldl (fun t e =>
          match slotAnswer s.n e.1 e.2.2 with
          | none => t
          | some i => { t with rgc := { t.rgc with nodes := t.rgc.nodes.map fun x =>
              if x.addr = e.1 then { x with state := .answering, image := some i, missed := 0, scansMissed := 0 }
              else x } }) u →
        v = slots.foldl (fun t e =>
          match slotAnswer s.n e.1 e.2.2, s.node e.1 with
          | none, _ => t.missNode e.1
          | some i, some nd => t.handAnswer nd e.2.1 i
          | some _, none => t) held →
        exec (.ringFrameReceived l) s = .next (judged v).flushOverflow))) ∧
  (∀ (n a : Nat) (adr mark o1 o2 x y z k : Byte) (i : InputImage),
    i = (if a = 30 then { InputImage.off with
          liftUp := x.getLsbD 0, liftDown := x.getLsbD 1, head := x.getLsbD 2, spurClear := x.getLsbD 3
          aux := [y.getLsbD 0, y.getLsbD 1, y.getLsbD 2, y.getLsbD 3, y.getLsbD 4, y.getLsbD 5, y.getLsbD 6, y.getLsbD 7] }
      else if a = 0 then { InputImage.off with
        present := x.getLsbD 0, locIn := x.getLsbD 1, locOut := x.getLsbD 2, block := x.getLsbD 3, toggle := x.getLsbD 4
        d2 := y.toNat / 16, d1 := y.toNat % 16, d0 := z.toNat / 16, c := z.toNat % 16 }
      else if a = n + 1 then { InputImage.off with
        present := x.getLsbD 0, locIn := x.getLsbD 1, locOut := x.getLsbD 2, block := x.getLsbD 3 }
      else { InputImage.off with
        home := x.getLsbD 0, done := x.getLsbD 1, pass := x.getLsbD 2, flt := x.getLsbD 3, clamped := x.getLsbD 4
        unclamped := x.getLsbD 5, locIn := x.getLsbD 6, locOut := x.getLsbD 7, present := y.getLsbD 0 }) →
    slotAnswer n a [adr, mark, o1, o2, x, y, z, k] =
      if adr.toNat = a ∧ mark.getLsbD 0 = true ∧
          (adr.toNat + mark.toNat + o1.toNat + o2.toNat + x.toNat + y.toNat + z.toNat + k.toNat) % 256 = 0 then some i
      else none) ∧
  (∀ (s : State) (a : Nat) (positions : List Nat), positions = (if a = 30 then [] else [a]) →
    (s.node a = none → s.missNode a = s) ∧
    (∀ (nd : Node) (lost : Bool) (t : State), s.node a = some nd → (lost = true ↔ nd.state ≠ .lost ∧ 2 ≤ nd.missed) →
      t = { s with rgc := { s.rgc with nodes := s.rgc.nodes.map fun x => if x.addr = a then { x with
        missed := min (nd.missed + 1) 3, scansMissed := min (x.scansMissed + 1) 65535
        state := if lost then .lost else x.state } else x } } →
      s.missNode a = if lost = true then State.handLoss a (t.report (.nodeLost a)) else t) ∧
    s.handLoss a =
      State.feedNodeLost a
        (if 1 ≤ a ∧ a ≤ s.n then (s.lineLosesNode a).unitFault a .nodeLoss else s.lineLosesNode a) ∧
    (s.isq.line = .halted → s.lineLosesNode a = s.addCause .nodeLoss positions) ∧
    (∀ ph, s.isq.line = .running → s.isq.phase = some ph →
      s.lineLosesNode a =
        if ph ∈ [.release, .withdraw, .lift, .advance, .lower, .locate, .clamp, .verify] ∨ (a = 30 ∧ ph = .returning) then
          s.enterHalted .nodeLoss positions
        else s) ∧
    (s.isq.line = .held ∨ s.isq.line = .unconfigured → s.lineLosesNode a = s) ∧
    (a = 0 ∨ a = 30 → s.fdu.state = .feeding →
      s.feedNodeLost a = s.failFeed (if s.fdu.gate = true then .arrival else .locator) .nodeLoss) ∧
    (a = 0 → s.fdu.state = .seating → s.feedNodeLost a = s.failFeed .seating .nodeLoss) ∧
    (a = 0 → s.fdu.state = .reading → s.feedNodeLost a = s.failFeed .read .nodeLoss) ∧
    ((a ≠ 0 ∧ a ≠ 30) ∨ (a = 30 ∧ s.fdu.state ≠ .feeding) ∨ s.fdu.state ∈ [.empty, .awaitingBlock, .ready, .foreign] →
      s.feedNodeLost a = s)) ∧
  (∀ (s t : State) (nd : Node) (o : OutputImage) (i : InputImage) (a : Nat) (fin : State → State), a = nd.addr →
    t = (if nd.state = .lost then s.report (.nodeReturned a nd.scansMissed) else s) →
    (∀ w : State, fin w =
      if (1 ≤ a ∧ a ≤ w.n) ∧ (w.unit a).restartWait = true ∧ o.start = false then
        w.modUnit a fun u => { u with
          start := true, restartWait := false
          operation := u.operation.map fun p => { p with doneSeenOff := !(w.image a).done } }
      else w) →
    (nd.image = none →
      s.handAnswer nd o i =
        fin (if a = 30 then { t with sct := { t.sct with
              liftState := match s.lineImage.liftUp, s.lineImage.liftDown with
                | true, false => .up
                | false, true => .down
                | _, _ => .unknown } }
          else if a = s.n + 1 then t.judgeWatch else t)) ∧
    (∀ old, nd.image = some old →
      s.handAnswer nd o i =
        fin (if a = 30 then t.lineInputs old i else if a = 0 then t.loadInputs old i
          else if a = s.n + 1 then t.unloadInputs a old i else t.stationInputs a old i))) ∧
  (∀ (s : State) (k : Nat) (old new : InputImage),
    s.stationInputs k old new =
      State.unitInputs k old new (if old.present = true ∧ new.present = false then s.seatDrop k else s) ∧
    ∀ t : State, t = (if old.liftUp ≠ new.liftUp ∨ old.liftDown ≠ new.liftDown then s.liftChanged else s) →
      s.lineInputs old new =
        if old.head = true ∧ new.head = false ∧ (t.image 0).present = false then t.setLoad t.fdu.state false else t) ∧
  (∀ (s u : State) (r : PositionRequest), s.sct.requests = [r] → u = { s with sct := { s.sct with requests := [] } } →
    (r.id = .seatLoad → s.fdu.state = .seating →
      s.judgeRequests = if (s.image 0).locIn = true then u.enterReading else s) ∧
    (r.id = .releaseLoad → s.fdu.state = .feeding →
      s.judgeRequests =
        if (s.image 0).locOut = true ∧ (s.image 0).locIn = false then
          { u with fdu := { s.fdu with gate := true, feedTimer := some (s.fdu.settings.feed * 1000) } }
        else s) ∧
    (∀ (k : Nat) (f : FaultRecord), r.id = .reclamp k → (s.unit k).fault = some f → f.reclamp = true →
      s.judgeRequests = if (s.image k).clamped = true then u.finishClear k .retry f else s)) ∧
  (∀ s : State, s.Calm → s.clu.overflow.first = none → s.isq.line = .unconfigured → s.isq.stations = none →
    s.sct.command = none → s.sct.requests = [] →
    (∀ (q : Nat) (o : OutputImage) (nd : Node) (x y : Byte) (body : List Byte),
      s.rgc.nodes = [nd] → nd.addr = 30 → nd.state = .pending →
      nd.image = none → s.rgc.scan = some { sequence := q, carried := [(30, o)] } →
      body = [0x3C] ++ u8 q ++ [1, 0, 30, 1, 0, 0, x, y, 0] ++ [checkByte [30, 1, 0, 0, x, y, 0]] →
      ∃ t, exec (.ringFrameReceived (body ++ u16 (crc16 body).toNat)) s = .next t ∧
        t.rgc.nodes = [{ addr := 30, state := .answering, image := some (decodeImage s.n 30 x y 0), missed := 0
                         scansMissed := 0 }] ∧
        t.rgc.scan = none ∧ t.sct.liftState = liftAtRest (readPair (x.getLsbD 0) (x.getLsbD 1)) ∧ t.prg = s.prg ∧
        t.isq = s.isq ∧ t.stu = s.stu ∧ t.mgn = s.mgn ∧ t.cam = s.cam ∧ t.fdu = s.fdu ∧ t.rtb = s.rtb) ∧
    (∀ (c : Scan) (l : List Byte) (nd : Node), s.rgc.nodes = [nd] → nd.addr = 30 → nd.state = .answering →
      nd.missed < 2 → c.carried.map Prod.fst = [30] → s.rgc.scan = some c → ringCrcOk l = false →
      exec (.ringFrameReceived l) s =
        .next { s with rgc := { s.rgc with
          scan := none
          nodes := [{ nd with missed := nd.missed + 1, scansMissed := min (nd.scansMissed + 1) 65535 }] } }))
end

