-- ==== Sys2Proof/Laws/State.lean ====
section
/-! SUPPORT. The change of one block, field by field: what each `State.mod…` leaves and what it writes. -/

namespace Sys2Proof.Machine.State

@[simp] theorem modPrg_inReset (f : Prg → Prg) (s : State) : (s.modPrg f).inReset = s.inReset := rfl
@[simp] theorem modPrg_timeBase (f : Prg → Prg) (s : State) : (s.modPrg f).timeBase = s.timeBase := rfl
@[simp] theorem modPrg_prg (f : Prg → Prg) (s : State) : (s.modPrg f).prg = f s.prg := rfl
@[simp] theorem modPrg_rtb (f : Prg → Prg) (s : State) : (s.modPrg f).rtb = s.rtb := rfl
@[simp] theorem modPrg_isq (f : Prg → Prg) (s : State) : (s.modPrg f).isq = s.isq := rfl
@[simp] theorem modPrg_stu (f : Prg → Prg) (s : State) : (s.modPrg f).stu = s.stu := rfl
@[simp] theorem modPrg_sct (f : Prg → Prg) (s : State) : (s.modPrg f).sct = s.sct := rfl
@[simp] theorem modPrg_mgn (f : Prg → Prg) (s : State) : (s.modPrg f).mgn = s.mgn := rfl
@[simp] theorem modPrg_cam (f : Prg → Prg) (s : State) : (s.modPrg f).cam = s.cam := rfl
@[simp] theorem modPrg_fdu (f : Prg → Prg) (s : State) : (s.modPrg f).fdu = s.fdu := rfl
@[simp] theorem modPrg_rgc (f : Prg → Prg) (s : State) : (s.modPrg f).rgc = s.rgc := rfl
@[simp] theorem modPrg_clu (f : Prg → Prg) (s : State) : (s.modPrg f).clu = s.clu := rfl
@[simp] theorem modPrg_pending (f : Prg → Prg) (s : State) : (s.modPrg f).pending = s.pending := rfl
@[simp] theorem modIsq_inReset (f : Isq → Isq) (s : State) : (s.modIsq f).inReset = s.inReset := rfl
@[simp] theorem modIsq_timeBase (f : Isq → Isq) (s : State) : (s.modIsq f).timeBase = s.timeBase := rfl
@[simp] theorem modIsq_prg (f : Isq → Isq) (s : State) : (s.modIsq f).prg = s.prg := rfl
@[simp] theorem modIsq_rtb (f : Isq → Isq) (s : State) : (s.modIsq f).rtb = s.rtb := rfl
@[simp] theorem modIsq_isq (f : Isq → Isq) (s : State) : (s.modIsq f).isq = f s.isq := rfl
@[simp] theorem modIsq_stu (f : Isq → Isq) (s : State) : (s.modIsq f).stu = s.stu := rfl
@[simp] theorem modIsq_sct (f : Isq → Isq) (s : State) : (s.modIsq f).sct = s.sct := rfl
@[simp] theorem modIsq_mgn (f : Isq → Isq) (s : State) : (s.modIsq f).mgn = s.mgn := rfl
@[simp] theorem modIsq_cam (f : Isq → Isq) (s : State) : (s.modIsq f).cam = s.cam := rfl
@[simp] theorem modIsq_fdu (f : Isq → Isq) (s : State) : (s.modIsq f).fdu = s.fdu := rfl
@[simp] theorem modIsq_rgc (f : Isq → Isq) (s : State) : (s.modIsq f).rgc = s.rgc := rfl
@[simp] theorem modIsq_clu (f : Isq → Isq) (s : State) : (s.modIsq f).clu = s.clu := rfl
@[simp] theorem modIsq_pending (f : Isq → Isq) (s : State) : (s.modIsq f).pending = s.pending := rfl
@[simp] theorem modSct_inReset (f : Sct → Sct) (s : State) : (s.modSct f).inReset = s.inReset := rfl
@[simp] theorem modSct_timeBase (f : Sct → Sct) (s : State) : (s.modSct f).timeBase = s.timeBase := rfl
@[simp] theorem modSct_prg (f : Sct → Sct) (s : State) : (s.modSct f).prg = s.prg := rfl
@[simp] theorem modSct_rtb (f : Sct → Sct) (s : State) : (s.modSct f).rtb = s.rtb := rfl
@[simp] theorem modSct_isq (f : Sct → Sct) (s : State) : (s.modSct f).isq = s.isq := rfl
@[simp] theorem modSct_stu (f : Sct → Sct) (s : State) : (s.modSct f).stu = s.stu := rfl
@[simp] theorem modSct_sct (f : Sct → Sct) (s : State) : (s.modSct f).sct = f s.sct := rfl
@[simp] theorem modSct_mgn (f : Sct → Sct) (s : State) : (s.modSct f).mgn = s.mgn := rfl
@[simp] theorem modSct_cam (f : Sct → Sct) (s : State) : (s.modSct f).cam = s.cam := rfl
@[simp] theorem modSct_fdu (f : Sct → Sct) (s : State) : (s.modSct f).fdu = s.fdu := rfl
@[simp] theorem modSct_rgc (f : Sct → Sct) (s : State) : (s.modSct f).rgc = s.rgc := rfl
@[simp] theorem modSct_clu (f : Sct → Sct) (s : State) : (s.modSct f).clu = s.clu := rfl
@[simp] theorem modSct_pending (f : Sct → Sct) (s : State) : (s.modSct f).pending = s.pending := rfl
@[simp] theorem modMgn_inReset (f : Mgn → Mgn) (s : State) : (s.modMgn f).inReset = s.inReset := rfl
@[simp] theorem modMgn_timeBase (f : Mgn → Mgn) (s : State) : (s.modMgn f).timeBase = s.timeBase := rfl
@[simp] theorem modMgn_prg (f : Mgn → Mgn) (s : State) : (s.modMgn f).prg = s.prg := rfl
@[simp] theorem modMgn_rtb (f : Mgn → Mgn) (s : State) : (s.modMgn f).rtb = s.rtb := rfl
@[simp] theorem modMgn_isq (f : Mgn → Mgn) (s : State) : (s.modMgn f).isq = s.isq := rfl
@[simp] theorem modMgn_stu (f : Mgn → Mgn) (s : State) : (s.modMgn f).stu = s.stu := rfl
@[simp] theorem modMgn_sct (f : Mgn → Mgn) (s : State) : (s.modMgn f).sct = s.sct := rfl
@[simp] theorem modMgn_mgn (f : Mgn → Mgn) (s : State) : (s.modMgn f).mgn = f s.mgn := rfl
@[simp] theorem modMgn_cam (f : Mgn → Mgn) (s : State) : (s.modMgn f).cam = s.cam := rfl
@[simp] theorem modMgn_fdu (f : Mgn → Mgn) (s : State) : (s.modMgn f).fdu = s.fdu := rfl
@[simp] theorem modMgn_rgc (f : Mgn → Mgn) (s : State) : (s.modMgn f).rgc = s.rgc := rfl
@[simp] theorem modMgn_clu (f : Mgn → Mgn) (s : State) : (s.modMgn f).clu = s.clu := rfl
@[simp] theorem modMgn_pending (f : Mgn → Mgn) (s : State) : (s.modMgn f).pending = s.pending := rfl
@[simp] theorem modCam_inReset (f : Cam → Cam) (s : State) : (s.modCam f).inReset = s.inReset := rfl
@[simp] theorem modCam_timeBase (f : Cam → Cam) (s : State) : (s.modCam f).timeBase = s.timeBase := rfl
@[simp] theorem modCam_prg (f : Cam → Cam) (s : State) : (s.modCam f).prg = s.prg := rfl
@[simp] theorem modCam_rtb (f : Cam → Cam) (s : State) : (s.modCam f).rtb = s.rtb := rfl
@[simp] theorem modCam_isq (f : Cam → Cam) (s : State) : (s.modCam f).isq = s.isq := rfl
@[simp] theorem modCam_stu (f : Cam → Cam) (s : State) : (s.modCam f).stu = s.stu := rfl
@[simp] theorem modCam_sct (f : Cam → Cam) (s : State) : (s.modCam f).sct = s.sct := rfl
@[simp] theorem modCam_mgn (f : Cam → Cam) (s : State) : (s.modCam f).mgn = s.mgn := rfl
@[simp] theorem modCam_cam (f : Cam → Cam) (s : State) : (s.modCam f).cam = f s.cam := rfl
@[simp] theorem modCam_fdu (f : Cam → Cam) (s : State) : (s.modCam f).fdu = s.fdu := rfl
@[simp] theorem modCam_rgc (f : Cam → Cam) (s : State) : (s.modCam f).rgc = s.rgc := rfl
@[simp] theorem modCam_clu (f : Cam → Cam) (s : State) : (s.modCam f).clu = s.clu := rfl
@[simp] theorem modCam_pending (f : Cam → Cam) (s : State) : (s.modCam f).pending = s.pending := rfl
@[simp] theorem modFdu_inReset (f : Fdu → Fdu) (s : State) : (s.modFdu f).inReset = s.inReset := rfl
@[simp] theorem modFdu_timeBase (f : Fdu → Fdu) (s : State) : (s.modFdu f).timeBase = s.timeBase := rfl
@[simp] theorem modFdu_prg (f : Fdu → Fdu) (s : State) : (s.modFdu f).prg = s.prg := rfl
@[simp] theorem modFdu_rtb (f : Fdu → Fdu) (s : State) : (s.modFdu f).rtb = s.rtb := rfl
@[simp] theorem modFdu_isq (f : Fdu → Fdu) (s : State) : (s.modFdu f).isq = s.isq := rfl
@[simp] theorem modFdu_stu (f : Fdu → Fdu) (s : State) : (s.modFdu f).stu = s.stu := rfl
@[simp] theorem modFdu_sct (f : Fdu → Fdu) (s : State) : (s.modFdu f).sct = s.sct := rfl
@[simp] theorem modFdu_mgn (f : Fdu → Fdu) (s : State) : (s.modFdu f).mgn = s.mgn := rfl
@[simp] theorem modFdu_cam (f : Fdu → Fdu) (s : State) : (s.modFdu f).cam = s.cam := rfl
@[simp] theorem modFdu_fdu (f : Fdu → Fdu) (s : State) : (s.modFdu f).fdu = f s.fdu := rfl
@[simp] theorem modFdu_rgc (f : Fdu → Fdu) (s : State) : (s.modFdu f).rgc = s.rgc := rfl
@[simp] theorem modFdu_clu (f : Fdu → Fdu) (s : State) : (s.modFdu f).clu = s.clu := rfl
@[simp] theorem modFdu_pending (f : Fdu → Fdu) (s : State) : (s.modFdu f).pending = s.pending := rfl
@[simp] theorem modRgc_inReset (f : Rgc → Rgc) (s : State) : (s.modRgc f).inReset = s.inReset := rfl
@[simp] theorem modRgc_timeBase (f : Rgc → Rgc) (s : State) : (s.modRgc f).timeBase = s.timeBase := rfl
@[simp] theorem modRgc_prg (f : Rgc → Rgc) (s : State) : (s.modRgc f).prg = s.prg := rfl
@[simp] theorem modRgc_rtb (f : Rgc → Rgc) (s : State) : (s.modRgc f).rtb = s.rtb := rfl
@[simp] theorem modRgc_isq (f : Rgc → Rgc) (s : State) : (s.modRgc f).isq = s.isq := rfl
@[simp] theorem modRgc_stu (f : Rgc → Rgc) (s : State) : (s.modRgc f).stu = s.stu := rfl
@[simp] theorem modRgc_sct (f : Rgc → Rgc) (s : State) : (s.modRgc f).sct = s.sct := rfl
@[simp] theorem modRgc_mgn (f : Rgc → Rgc) (s : State) : (s.modRgc f).mgn = s.mgn := rfl
@[simp] theorem modRgc_cam (f : Rgc → Rgc) (s : State) : (s.modRgc f).cam = s.cam := rfl
@[simp] theorem modRgc_fdu (f : Rgc → Rgc) (s : State) : (s.modRgc f).fdu = s.fdu := rfl
@[simp] theorem modRgc_rgc (f : Rgc → Rgc) (s : State) : (s.modRgc f).rgc = f s.rgc := rfl
@[simp] theorem modRgc_clu (f : Rgc → Rgc) (s : State) : (s.modRgc f).clu = s.clu := rfl
@[simp] theorem modRgc_pending (f : Rgc → Rgc) (s : State) : (s.modRgc f).pending = s.pending := rfl
@[simp] theorem modClu_inReset (f : Clu → Clu) (s : State) : (s.modClu f).inReset = s.inReset := rfl
@[simp] theorem modClu_timeBase (f : Clu → Clu) (s : State) : (s.modClu f).timeBase = s.timeBase := rfl
@[simp] theorem modClu_prg (f : Clu → Clu) (s : State) : (s.modClu f).prg = s.prg := rfl
@[simp] theorem modClu_rtb (f : Clu → Clu) (s : State) : (s.modClu f).rtb = s.rtb := rfl
@[simp] theorem modClu_isq (f : Clu → Clu) (s : State) : (s.modClu f).isq = s.isq := rfl
@[simp] theorem modClu_stu (f : Clu → Clu) (s : State) : (s.modClu f).stu = s.stu := rfl
@[simp] theorem modClu_sct (f : Clu → Clu) (s : State) : (s.modClu f).sct = s.sct := rfl
@[simp] theorem modClu_mgn (f : Clu → Clu) (s : State) : (s.modClu f).mgn = s.mgn := rfl
@[simp] theorem modClu_cam (f : Clu → Clu) (s : State) : (s.modClu f).cam = s.cam := rfl
@[simp] theorem modClu_fdu (f : Clu → Clu) (s : State) : (s.modClu f).fdu = s.fdu := rfl
@[simp] theorem modClu_rgc (f : Clu → Clu) (s : State) : (s.modClu f).rgc = s.rgc := rfl
@[simp] theorem modClu_clu (f : Clu → Clu) (s : State) : (s.modClu f).clu = f s.clu := rfl
@[simp] theorem modClu_pending (f : Clu → Clu) (s : State) : (s.modClu f).pending = s.pending := rfl
@[simp] theorem modStu_inReset (f : List StationUnit → List StationUnit) (s : State) : (s.modStu f).inReset = s.inReset := rfl
@[simp] theorem modStu_timeBase (f : List StationUnit → List StationUnit) (s : State) : (s.modStu f).timeBase = s.timeBase := rfl
@[simp] theorem modStu_prg (f : List StationUnit → List StationUnit) (s : State) : (s.modStu f).prg = s.prg := rfl
@[simp] theorem modStu_rtb (f : List StationUnit → List StationUnit) (s : State) : (s.modStu f).rtb = s.rtb := rfl
@[simp] theorem modStu_isq (f : List StationUnit → List StationUnit) (s : State) : (s.modStu f).isq = s.isq := rfl
@[simp] theorem modStu_stu (f : List StationUnit → List StationUnit) (s : State) : (s.modStu f).stu = f s.stu := rfl
@[simp] theorem modStu_sct (f : List StationUnit → List StationUnit) (s : State) : (s.modStu f).sct = s.sct := rfl
@[simp] theorem modStu_mgn (f : List StationUnit → List StationUnit) (s : State) : (s.modStu f).mgn = s.mgn := rfl
@[simp] theorem modStu_cam (f : List StationUnit → List StationUnit) (s : State) : (s.modStu f).cam = s.cam := rfl
@[simp] theorem modStu_fdu (f : List StationUnit → List StationUnit) (s : State) : (s.modStu f).fdu = s.fdu := rfl
@[simp] theorem modStu_rgc (f : List StationUnit → List StationUnit) (s : State) : (s.modStu f).rgc = s.rgc := rfl
@[simp] theorem modStu_clu (f : List StationUnit → List StationUnit) (s : State) : (s.modStu f).clu = s.clu := rfl
@[simp] theorem modStu_pending (f : List StationUnit → List StationUnit) (s : State) : (s.modStu f).pending = s.pending := rfl
@[simp] theorem modRtb_inReset (f : List (List Nat) → List (List Nat)) (s : State) : (s.modRtb f).inReset = s.inReset := rfl
@[simp] theorem modRtb_timeBase (f : List (List Nat) → List (List Nat)) (s : State) : (s.modRtb f).timeBase = s.timeBase := rfl
@[simp] theorem modRtb_prg (f : List (List Nat) → List (List Nat)) (s : State) : (s.modRtb f).prg = s.prg := rfl
@[simp] theorem modRtb_rtb (f : List (List Nat) → List (List Nat)) (s : State) : (s.modRtb f).rtb = f s.rtb := rfl
@[simp] theorem modRtb_isq (f : List (List Nat) → List (List Nat)) (s : State) : (s.modRtb f).isq = s.isq := rfl
@[simp] theorem modRtb_stu (f : List (List Nat) → List (List Nat)) (s : State) : (s.modRtb f).stu = s.stu := rfl
@[simp] theorem modRtb_sct (f : List (List Nat) → List (List Nat)) (s : State) : (s.modRtb f).sct = s.sct := rfl
@[simp] theorem modRtb_mgn (f : List (List Nat) → List (List Nat)) (s : State) : (s.modRtb f).mgn = s.mgn := rfl
@[simp] theorem modRtb_cam (f : List (List Nat) → List (List Nat)) (s : State) : (s.modRtb f).cam = s.cam := rfl
@[simp] theorem modRtb_fdu (f : List (List Nat) → List (List Nat)) (s : State) : (s.modRtb f).fdu = s.fdu := rfl
@[simp] theorem modRtb_rgc (f : List (List Nat) → List (List Nat)) (s : State) : (s.modRtb f).rgc = s.rgc := rfl
@[simp] theorem modRtb_clu (f : List (List Nat) → List (List Nat)) (s : State) : (s.modRtb f).clu = s.clu := rfl
@[simp] theorem modRtb_pending (f : List (List Nat) → List (List Nat)) (s : State) : (s.modRtb f).pending = s.pending := rfl

end Sys2Proof.Machine.State
end

