-- ==== Sys2Proof/Laws/Frames.lean ====
section
/-! SUPPORT. What no block touches: the command queue, the time base, RST, the settings of SET LINE, the route
table and the Cell Link Unit less its report queue. `Kept r s` says that the state `s`, reached from `r`, has all
of it as `r` had it, that the report queue is still within its 32 places, and that ALARM reports at its head are there
still. There is one lemma for each shared
operation; simp chains them. -/

namespace Sys2Proof.Machine

/-- The Cell Link Unit less what a report changes. -/
def Clu.apart (c : Clu) : Clu :=
  { c with reports := [], overflow := { alarms := 0, events := 0, traces := 0, first := none } }

/-- `s` is reached from `r` by the work of a block. -/
structure Kept (r s : State) : Prop where
  inReset : s.inReset = r.inReset
  pending : s.pending = r.pending
  timeBase : s.timeBase = r.timeBase
  stations : s.isq.stations = r.isq.stations
  waitDelay : s.isq.waitDelay = r.isq.waitDelay
  capacity : s.prg.capacity = r.prg.capacity
  limit : s.prg.inspectionLimit = r.prg.inspectionLimit
  seat : s.sct.settings = r.sct.settings
  motion : s.mgn.settings = r.mgn.settings
  feed : s.fdu.settings = r.fdu.settings
  routes : s.rtb = r.rtb
  units : s.stu.length = r.stu.length
  link : s.clu.apart = r.clu.apart
  room : r.clu.reports.length ≤ Config.reportSlots → s.clu.reports.length ≤ Config.reportSlots
  alarms : ∀ l : List QueuedReport, (∀ q ∈ l, q.report.cls = .alarm) → l <+: r.clu.reports → l <+: s.clu.reports

@[simp] theorem Kept.refl (s : State) : Kept s s :=
  ⟨rfl, rfl, rfl, rfl, rfl, rfl, rfl, rfl, rfl, rfl, rfl, rfl, rfl, id, fun _ _ h => h⟩

theorem Kept.trans {r s t : State} (h : Kept r s) (k : Kept s t) : Kept r t :=
  ⟨k.1.trans h.1, k.2.trans h.2, k.3.trans h.3, k.4.trans h.4, k.5.trans h.5, k.6.trans h.6, k.7.trans h.7,
    k.8.trans h.8, k.9.trans h.9, k.10.trans h.10, k.11.trans h.11, k.12.trans h.12, k.13.trans h.13,
    fun x => k.14 (h.14 x), fun l x y => k.15 l x (h.15 l x y)⟩

@[simp] theorem kept_ite {r a b : State} {c : Prop} [Decidable c] (h : Kept r a) (k : Kept r b) :
    Kept r (if c then a else b) := by split <;> assumption

@[simp] theorem kept_foldl {α : Type} {r s : State} (f : State → α → State) (l : List α)
    (hf : ∀ t a, Kept r t → Kept r (f t a)) (h : Kept r s) : Kept r (l.foldl f s) := by
  induction l generalizing s with
  | nil => exact h
  | cons a l ih => exact ih (hf s a h)

/-! ## One block -/

variable {r s : State}

@[simp] theorem kept_modPrg (f : Prg → Prg) (h : Kept r s) (hc : (f s.prg).capacity = s.prg.capacity)
    (hl : (f s.prg).inspectionLimit = s.prg.inspectionLimit) : Kept r (s.modPrg f) :=
  h.trans ⟨rfl, rfl, rfl, rfl, rfl, hc, hl, rfl, rfl, rfl, rfl, rfl, rfl, id, fun _ _ h => h⟩

@[simp] theorem kept_modIsq (f : Isq → Isq) (h : Kept r s) (hn : (f s.isq).stations = s.isq.stations)
    (hd : (f s.isq).waitDelay = s.isq.waitDelay) : Kept r (s.modIsq f) :=
  h.trans ⟨rfl, rfl, rfl, hn, hd, rfl, rfl, rfl, rfl, rfl, rfl, rfl, rfl, id, fun _ _ h => h⟩

@[simp] theorem kept_modSct (f : Sct → Sct) (h : Kept r s) (hf : (f s.sct).settings = s.sct.settings) :
    Kept r (s.modSct f) :=
  h.trans ⟨rfl, rfl, rfl, rfl, rfl, rfl, rfl, hf, rfl, rfl, rfl, rfl, rfl, id, fun _ _ h => h⟩

@[simp] theorem kept_modMgn (f : Mgn → Mgn) (h : Kept r s) (hf : (f s.mgn).settings = s.mgn.settings) :
    Kept r (s.modMgn f) :=
  h.trans ⟨rfl, rfl, rfl, rfl, rfl, rfl, rfl, rfl, hf, rfl, rfl, rfl, rfl, id, fun _ _ h => h⟩

@[simp] theorem kept_modCam (f : Cam → Cam) (h : Kept r s) : Kept r (s.modCam f) :=
  h.trans ⟨rfl, rfl, rfl, rfl, rfl, rfl, rfl, rfl, rfl, rfl, rfl, rfl, rfl, id, fun _ _ h => h⟩

@[simp] theorem kept_modFdu (f : Fdu → Fdu) (h : Kept r s) (hf : (f s.fdu).settings = s.fdu.settings) :
    Kept r (s.modFdu f) :=
  h.trans ⟨rfl, rfl, rfl, rfl, rfl, rfl, rfl, rfl, rfl, hf, rfl, rfl, rfl, id, fun _ _ h => h⟩

@[simp] theorem kept_modRgc (f : Rgc → Rgc) (h : Kept r s) : Kept r (s.modRgc f) :=
  h.trans ⟨rfl, rfl, rfl, rfl, rfl, rfl, rfl, rfl, rfl, rfl, rfl, rfl, rfl, id, fun _ _ h => h⟩

@[simp] theorem kept_modStu (f : List StationUnit → List StationUnit) (h : Kept r s)
    (hf : (f s.stu).length = s.stu.length) : Kept r (s.modStu f) :=
  h.trans ⟨rfl, rfl, rfl, rfl, rfl, rfl, rfl, rfl, rfl, rfl, rfl, hf, rfl, id, fun _ _ h => h⟩

@[simp] theorem kept_modUnit (k : Nat) (f : StationUnit → StationUnit) (h : Kept r s) : Kept r (s.modUnit k f) := by
  unfold State.modUnit
  split
  · exact h
  · exact kept_modStu _ h (by simp)

@[simp] theorem kept_modChannel (c : ChannelId) (f : Channel → Channel) (h : Kept r s) : Kept r (s.modChannel c f) := by
  unfold State.modChannel
  split <;> simp [h]

@[simp] theorem kept_modAllChannels (f : Channel → Channel) (h : Kept r s) : Kept r (s.modAllChannels f) := by
  unfold State.modAllChannels
  simp [h]

@[simp] theorem kept_modBank (id : BankId) (f : Bank → Bank) (h : Kept r s) : Kept r (s.modBank id f) := by
  unfold State.modBank
  split <;> simp [h]

/-! ## Reports (R175, R176) -/

/-- The report queue keeps to its places. -/
theorem Clu.take_room (q : QueuedReport) (c : Clu) (h : c.reports.length ≤ Config.reportSlots) :
    (c.take q).reports.length ≤ Config.reportSlots := by
  unfold Clu.take Clu.enqueue
  split
  · split
    · simp only [List.length_append, List.length_cons, List.length_nil]; omega
    · split
      · rename_i hi
        have := (List.findIdx?_eq_some_iff_findIdx_eq.mp hi).1
        simp only [List.length_append, List.length_eraseIdx, List.length_cons, List.length_nil]
        split <;> omega
      · exact h
  · exact h

/-- ALARM reports at the head of the queue stay there (R176). -/
theorem Clu.take_alarms (q : QueuedReport) (c : Clu) (l : List QueuedReport) (ha : ∀ x ∈ l, x.report.cls = .alarm)
    (h : l <+: c.reports) : l <+: (c.take q).reports := by
  unfold Clu.take Clu.enqueue
  split
  · split
    · exact h.trans (List.prefix_append _ _)
    · split
      · rename_i i _ hi
        refine List.IsPrefix.trans ?_ (List.prefix_append _ _)
        obtain ⟨m, hm⟩ := h
        obtain ⟨x, hx, hp⟩ : ∃ x, c.reports[i]? = some x ∧ (x.report.cls != .alarm) = true := by
          have := List.of_findIdx?_eq_some hi
          split at this <;> simp_all
        have hl : l.length ≤ i := by
          refine Nat.le_of_not_lt fun hlt => ?_
          have : x ∈ l := by
            rw [← hm, List.getElem?_append_left (by omega)] at hx
            exact List.mem_of_getElem? hx
          simp [ha x this] at hp
        rw [← hm, List.eraseIdx_append_of_length_le hl]
        exact List.prefix_append _ _
      · exact h
  · exact h

/-- A report changes the report queue and the overflow record alone. -/
@[simp] theorem Clu.take_apart (q : QueuedReport) (c : Clu) : (c.take q).apart = c.apart := by
  unfold Clu.take Clu.enqueue
  split
  · split
    · rfl
    · split <;> rfl
  · rfl

@[simp] theorem kept_report (x : Report) (h : Kept r s) : Kept r (s.report x) :=
  h.trans ⟨rfl, rfl, rfl, rfl, rfl, rfl, rfl, rfl, rfl, rfl, rfl, rfl, Clu.take_apart _ _, Clu.take_room _ _,
    Clu.take_alarms _ _⟩

/-! ## The Pallet Register -/

@[simp] theorem kept_modRecord (id : Nat) (f : Pallet → Pallet) (h : Kept r s) : Kept r (State.modRecord id f s) := by
  unfold State.modRecord
  simp (maxDischargeDepth := 40) [h]

@[simp] theorem kept_modBlock (id : Nat) (f : Block → Block) (h : Kept r s) : Kept r (State.modBlock id f s) := by
  unfold State.modBlock
  simp (maxDischargeDepth := 40) [h]

@[simp] theorem kept_setSlot (p : Nat) (c : Slot) (h : Kept r s) : Kept r (State.setSlot p c s) := by
  unfold State.setSlot
  simp (maxDischargeDepth := 40) [h]

@[simp] theorem kept_createRecord (id : Nat) (block : Option Block) (h : Kept r s) : Kept r (State.createRecord id block s) := by
  unfold State.createRecord
  simp (maxDischargeDepth := 40) [h]

@[simp] theorem kept_deleteRecord (id : Nat) (h : Kept r s) : Kept r (State.deleteRecord id s) := by
  unfold State.deleteRecord
  simp (maxDischargeDepth := 40) [h]

@[simp] theorem kept_joinQueue (id : Nat) (h : Kept r s) : Kept r (State.joinQueue id s) := by
  unfold State.joinQueue
  simp (maxDischargeDepth := 40) [h]

@[simp] theorem kept_joinOffline (id : Nat) (h : Kept r s) : Kept r (State.joinOffline id s) := by
  unfold State.joinOffline
  simp (maxDischargeDepth := 40) [h]

@[simp] theorem kept_leaveOffline (id : Nat) (h : Kept r s) : Kept r (State.leaveOffline id s) := by
  unfold State.leaveOffline
  simp (maxDischargeDepth := 40) [h]

@[simp] theorem kept_setTransit (h : Kept r s) : Kept r (State.setTransit s) := by
  unfold State.setTransit
  simp (maxDischargeDepth := 40) [h]

@[simp] theorem kept_clearTransit (h : Kept r s) : Kept r (State.clearTransit s) := by
  unfold State.clearTransit
  simp (maxDischargeDepth := 40) [h]

@[simp] theorem kept_takeOrdinal (k : Nat) (verified : Bool) (h : Kept r s) : Kept r (State.takeOrdinal k verified s) := by
  unfold State.takeOrdinal
  (repeat' split) <;> simp (maxDischargeDepth := 40) [h]

@[simp] theorem kept_markForeign (id : Nat) (h : Kept r s) : Kept r (State.markForeign id s) := by
  unfold State.markForeign
  simp (maxDischargeDepth := 40) [h]

@[simp] theorem kept_clearLoad (h : Kept r s) : Kept r (State.clearLoad s) := by
  unfold State.clearLoad
  simp (maxDischargeDepth := 40) [h]

@[simp] theorem kept_append (k program : Nat) (x : LogResult) (h : Kept r s) : Kept r (State.append k program x s).1 := by
  unfold State.append
  (repeat' split) <;> simp (maxDischargeDepth := 40) [h]

@[simp] theorem kept_loadCheck (h : Kept r s) : Kept r (State.loadCheck s) := by
  simp only [State.loadCheck]
  (repeat' split) <;> simp (maxDischargeDepth := 40) [h]

@[simp] theorem kept_judgeWatch (h : Kept r s) : Kept r (State.judgeWatch s) := by
  unfold State.judgeWatch
  simp (maxDischargeDepth := 40) [h]

@[simp] theorem kept_unloadRise (h : Kept r s) : Kept r (State.unloadRise s) := by
  unfold State.unloadRise
  (repeat' split) <;> simp (maxDischargeDepth := 40) [h]

@[simp] theorem kept_removeBlock (h : Kept r s) : Kept r (State.removeBlock s) := by
  unfold State.removeBlock
  (repeat' split) <;> simp (maxDischargeDepth := 40) [h]

@[simp] theorem kept_unloadDrop (h : Kept r s) : Kept r (State.unloadDrop s) := by
  unfold State.unloadDrop
  (repeat' split) <;> simp (maxDischargeDepth := 40) [h]

@[simp] theorem kept_discharge (h : Kept r s) : Kept r (State.discharge s) := by
  simp only [State.discharge]
  (repeat' split) <;> simp (maxDischargeDepth := 40) [h]

@[simp] theorem kept_shift (h : Kept r s) : Kept r (State.shift s) := by
  unfold State.shift
  simp (maxDischargeDepth := 40) [h]

/-! ## The Seat Controller -/

@[simp] theorem kept_clearMark (c : ChannelId) (side : Side) (h : Kept r s) : Kept r (State.clearMark c side s) := by
  unfold State.clearMark
  (repeat' split) <;> simp (maxDischargeDepth := 40) [h]

@[simp] theorem kept_startPulse (c : ChannelId) (side : Side) (requesters : List Requester) (h : Kept r s) : Kept r (State.startPulse c side requesters s) := by
  unfold State.startPulse
  simp (maxDischargeDepth := 40) [h]

@[simp] theorem kept_requestPulse (c : ChannelId) (side : Side) (who : Requester) (h : Kept r s) : Kept r (State.requestPulse c side who s) := by
  unfold State.requestPulse
  (repeat' split) <;> simp (maxDischargeDepth := 40) [h]

@[simp] theorem kept_requestPulses (cs : List ChannelId) (side : Side) (who : Requester) (h : Kept r s) : Kept r (State.requestPulses cs side who s) := by
  unfold State.requestPulses
  simp_all (maxDischargeDepth := 40)

@[simp] theorem kept_cancelGroupB (h : Kept r s) : Kept r (State.cancelGroupB s) := by
  unfold State.cancelGroupB
  simp (maxDischargeDepth := 40) [h]

@[simp] theorem kept_closeHeld (h : Kept r s) : Kept r (State.closeHeld s) := by
  unfold State.closeHeld
  simp (maxDischargeDepth := 40) [h]

@[simp] theorem kept_openHeld (h : Kept r s) : Kept r (State.openHeld s) := by
  unfold State.openHeld
  simp (maxDischargeDepth := 40) [h]

@[simp] theorem kept_phaseRequests (ph : Phase) (h : Kept r s) : Kept r (State.phaseRequests ph s) := by
  unfold State.phaseRequests
  (repeat' split) <;> simp (maxDischargeDepth := 40) [h]

@[simp] theorem kept_openCommand (ph : Phase) (h : Kept r s) : Kept r (State.openCommand ph s) := by
  unfold State.openCommand
  simp (maxDischargeDepth := 40) [h]

@[simp] theorem kept_closeCommand (h : Kept r s) : Kept r (State.closeCommand s) := by
  unfold State.closeCommand
  simp (maxDischargeDepth := 40) [h]

@[simp] theorem kept_setLift (l : LiftState) (h : Kept r s) : Kept r (State.setLift l s) := by
  unfold State.setLift
  simp (maxDischargeDepth := 40) [h]

@[simp] theorem kept_judgeLiftAtRest (h : Kept r s) : Kept r (State.judgeLiftAtRest s) := by
  unfold State.judgeLiftAtRest
  simp (maxDischargeDepth := 40) [h]

@[simp] theorem kept_judgeLift (h : Kept r s) : Kept r (State.judgeLift s).1 := by
  unfold State.judgeLift
  (repeat' split) <;> simp (maxDischargeDepth := 40) [h]

@[simp] theorem kept_openMovement (m : LiftMove) (h : Kept r s) : Kept r (State.openMovement m s).1 := by
  unfold State.openMovement
  simp (maxDischargeDepth := 40) [h]

@[simp] theorem kept_endMovement (h : Kept r s) : Kept r (State.endMovement s) := by
  unfold State.endMovement
  (repeat' split) <;> simp (maxDischargeDepth := 40) [h]

@[simp] theorem kept_endPhaseWork (h : Kept r s) : Kept r (State.endPhaseWork s) := by
  simp only [State.endPhaseWork]
  (repeat' split) <;> simp (maxDischargeDepth := 40) [h]

@[simp] theorem kept_closeRequest (id : RequestId) (h : Kept r s) : Kept r (State.closeRequest id s) := by
  unfold State.closeRequest
  simp (maxDischargeDepth := 40) [h]

@[simp] theorem kept_openRequest (id : RequestId) (h : Kept r s) : Kept r (State.openRequest id s) := by
  unfold State.openRequest
  simp (maxDischargeDepth := 40) [h]

@[simp] theorem kept_withdrawRequest (id : RequestId) (h : Kept r s) : Kept r (State.withdrawRequest id s) := by
  unfold State.withdrawRequest
  (repeat' split) <;> simp (maxDischargeDepth := 40) [h]

@[simp] theorem kept_releaseEmptyFixtures (h : Kept r s) : Kept r (State.releaseEmptyFixtures s) := by
  unfold State.releaseEmptyFixtures
  simp (maxDischargeDepth := 40) [h]

@[simp] theorem kept_clampPlaced (k : Nat) (h : Kept r s) : Kept r (State.clampPlaced k s) := by
  unfold State.clampPlaced
  simp (maxDischargeDepth := 40) [h]

@[simp] theorem kept_topUpGroup (g : Group) (h : Kept r s) : Kept r (State.topUpGroup g s) := by
  unfold State.topUpGroup
  simp (maxDischargeDepth := 40) [h]

@[simp] theorem kept_topUpReload (h : Kept r s) : Kept r (State.topUpReload s) := by
  unfold State.topUpReload
  simp (maxDischargeDepth := 40) [h]

@[simp] theorem kept_topUpGroupB (h : Kept r s) : Kept r (State.topUpGroupB s) := by
  unfold State.topUpGroupB
  simp (maxDischargeDepth := 40) [h]

@[simp] theorem kept_seatRestart (h : Kept r s) : Kept r (State.seatRestart s) := by
  unfold State.seatRestart
  simp (maxDischargeDepth := 40) [h]

/-! ## The Cam Unit -/

@[simp] theorem kept_swapBanks (h : Kept r s) : Kept r (State.swapBanks s) := by
  simp only [State.swapBanks]
  (repeat' split) <;> simp (maxDischargeDepth := 40) [h]

@[simp] theorem kept_camBegin (d : Direction) (live : Bool) (first : Option Int) (h : Kept r s) : Kept r (State.camBegin d live first s) := by
  unfold State.camBegin
  simp (maxDischargeDepth := 40) [h]

@[simp] theorem kept_camEnd (h : Kept r s) : Kept r (State.camEnd s) := by
  unfold State.camEnd
  simp (maxDischargeDepth := 40) [h]

@[simp] theorem kept_markFired (i : Nat) (h : Kept r s) : Kept r (State.markFired i s) := by
  unfold State.markFired
  simp (maxDischargeDepth := 40) [h]

@[simp] theorem kept_setAux (k : Nat) (on : Bool) (h : Kept r s) : Kept r (State.setAux k on s) := by
  unfold State.setAux
  simp (maxDischargeDepth := 40) [h]

@[simp] theorem kept_fireLive (bank : BankId) (d : Direction) (p1 : Int) (l : List (Nat × CamPoint)) (h : Kept r s) : Kept r (fireLive bank d p1 l s).1 := by
  induction l generalizing s with
  | nil => simpa [fireLive] using h
  | cons e l ih =>
    obtain ⟨i, p⟩ := e
    simp only [fireLive]
    (repeat' split) <;> first | exact ih (by simp (maxDischargeDepth := 40) [h]) | simp (maxDischargeDepth := 40) [h]

@[simp] theorem kept_countTrial (o : TrialOutcome) (h : Kept r s) : Kept r (State.countTrial o s) := by
  unfold State.countTrial
  simp (maxDischargeDepth := 40) [h]

@[simp] theorem kept_fireTrial (bank : BankId) (d : Direction) (p1 : Int) (l : List (Nat × CamPoint)) (h : Kept r s) : Kept r (State.fireTrial bank d p1 l s) := by
  unfold State.fireTrial
  simp_all (maxDischargeDepth := 40)

@[simp] theorem kept_handOver (p1 : Int) (h : Kept r s) : Kept r (State.handOver p1 s).1 := by
  unfold State.handOver
  (repeat' split) <;> simp (maxDischargeDepth := 40) [h]

@[simp] theorem kept_reportUnfired (x : TrialRecord) (h : Kept r s) : Kept r (State.reportUnfired x s) := by
  unfold State.reportUnfired
  simp_all (maxDischargeDepth := 40)

@[simp] theorem kept_endTrial (ending : TrialEnding) (h : Kept r s) : Kept r (State.endTrial ending s) := by
  unfold State.endTrial
  (repeat' split) <;> simp (maxDischargeDepth := 40) [h]

/-! ## The Motion Generator -/

@[simp] theorem kept_beginStroke (d : Direction) (target : Int) (h : Kept r s) : Kept r (State.beginStroke d target s) := by
  unfold State.beginStroke
  simp (maxDischargeDepth := 40) [h]

@[simp] theorem kept_reportStrokeEnd (d : Direction) (o : StrokeOutcome) (ticks : Nat) (h : Kept r s) : Kept r (State.reportStrokeEnd d o ticks s) := by
  unfold State.reportStrokeEnd
  simp (maxDischargeDepth := 40) [h]

@[simp] theorem kept_settleStroke (h : Kept r s) : Kept r (State.settleStroke s) := by
  unfold State.settleStroke
  (repeat' split) <;> simp (maxDischargeDepth := 40) [h]

@[simp] theorem kept_finishQuick (q : QuickStop) (h : Kept r s) : Kept r (State.finishQuick q s) := by
  unfold State.finishQuick
  (repeat' split) <;> simp (maxDischargeDepth := 40) [h]

@[simp] theorem kept_startQuick (ending : TrialEnding) (enableOff : Bool) (p : Plan) (h : Kept r s) : Kept r (State.startQuick ending enableOff p s) := by
  unfold State.startQuick
  simp (maxDischargeDepth := 40) [h]

@[simp] theorem kept_quickStop (ending : TrialEnding) (enableOff : Bool) (h : Kept r s) : Kept r (State.quickStop ending enableOff s) := by
  unfold State.quickStop
  (repeat' split) <;> simp (maxDischargeDepth := 40) [h]

@[simp] theorem kept_endMotionAtOnce (h : Kept r s) : Kept r (State.endMotionAtOnce s) := by
  unfold State.endMotionAtOnce
  (repeat' split) <;> simp (maxDischargeDepth := 40) [h]

@[simp] theorem kept_enterDrive (d : DriveState) (h : Kept r s) : Kept r (State.enterDrive d s).1 := by
  unfold State.enterDrive
  (repeat' split) <;> simp (maxDischargeDepth := 40) [h]

@[simp] theorem kept_takeFeedback (h : Kept r s) : Kept r (State.takeFeedback s).1 := by
  simp only [State.takeFeedback]
  (repeat' split) <;> simp (maxDischargeDepth := 40) [h]

@[simp] theorem kept_checkFollowing (f : Int) (h : Kept r s) : Kept r (State.checkFollowing f s).1 := by
  simp only [State.checkFollowing]
  (repeat' split) <;> simp_all (maxDischargeDepth := 40)

@[simp] theorem kept_movePlan (h : Kept r s) : Kept r (State.movePlan s) := by
  unfold State.movePlan
  (repeat' split) <;> simp (maxDischargeDepth := 40) [h]

@[simp] theorem kept_moveQuick (h : Kept r s) : Kept r (State.moveQuick s).1 := by
  simp only [State.moveQuick]
  (repeat' split) <;> simp (maxDischargeDepth := 40) [h]

@[simp] theorem kept_followAtRest (f : Option Feedback) (h : Kept r s) : Kept r (State.followAtRest f s) := by
  unfold State.followAtRest
  (repeat' split) <;> simp (maxDischargeDepth := 40) [h]

@[simp] theorem kept_sendSetpoint (h : Kept r s) : Kept r (State.sendSetpoint s) := by
  unfold State.sendSetpoint
  simp (maxDischargeDepth := 40) [h]

@[simp] theorem kept_beginTrialStroke (d : Direction) (h : Kept r s) : Kept r (State.beginTrialStroke d s) := by
  unfold State.beginTrialStroke
  simp (maxDischargeDepth := 40) [h]

@[simp] theorem kept_startTrial (h : Kept r s) : Kept r (State.startTrial s) := by
  unfold State.startTrial
  simp (maxDischargeDepth := 40) [h]

@[simp] theorem kept_trialTick (h : Kept r s) : Kept r (State.trialTick s) := by
  unfold State.trialTick
  (repeat' split) <;> simp (maxDischargeDepth := 40) [h]

/-! ## Halts -/

@[simp] theorem kept_reportLine (why : LineReason) (h : Kept r s) : Kept r (State.reportLine why s) := by
  unfold State.reportLine
  simp (maxDischargeDepth := 40) [h]

@[simp] theorem kept_goHeld (why : LineReason) (h : Kept r s) : Kept r (State.goHeld why s) := by
  unfold State.goHeld
  simp (maxDischargeDepth := 40) [h]

@[simp] theorem kept_setHold (why : LineReason) (h : Kept r s) : Kept r (State.setHold why s) := by
  unfold State.setHold
  simp (maxDischargeDepth := 40) [h]

@[simp] theorem kept_enterHalted (c : Cause) (positions : List Nat) (h : Kept r s) : Kept r (State.enterHalted c positions s) := by
  unfold State.enterHalted
  (repeat' split) <;> simp (maxDischargeDepth := 40) [h]

@[simp] theorem kept_addCause (c : Cause) (positions : List Nat) (h : Kept r s) : Kept r (State.addCause c positions s) := by
  unfold State.addCause
  (repeat' split) <;> simp (maxDischargeDepth := 40) [h]

@[simp] theorem kept_raiseCause (c : Cause) (positions : List Nat) (h : Kept r s) : Kept r (State.raiseCause c positions s) := by
  unfold State.raiseCause
  simp (maxDischargeDepth := 40) [h]

@[simp] theorem kept_haltSettled (h : Kept r s) : Kept r (State.haltSettled s) := by
  unfold State.haltSettled
  (repeat' split) <;> simp (maxDischargeDepth := 40) [h]

/-! ## The Feed Unit -/

@[simp] theorem kept_setLoad (l : LoadState) (hold : Bool) (h : Kept r s) : Kept r (State.setLoad l hold s) := by
  unfold State.setLoad
  simp (maxDischargeDepth := 40) [h]

@[simp] theorem kept_toLoad (l : LoadState) (h : Kept r s) : Kept r (State.toLoad l s) := by
  unfold State.toLoad
  simp (maxDischargeDepth := 40) [h]

@[simp] theorem kept_clearLoadHold (h : Kept r s) : Kept r (State.clearLoadHold s) := by
  unfold State.clearLoadHold
  simp (maxDischargeDepth := 40) [h]

@[simp] theorem kept_endFeed (h : Kept r s) : Kept r (State.endFeed s) := by
  unfold State.endFeed
  simp (maxDischargeDepth := 40) [h]

@[simp] theorem kept_failFeedTo (l : LoadState) (stage : FeedStage) (why : FeedReason) (h : Kept r s) : Kept r (State.failFeedTo l stage why s) := by
  unfold State.failFeedTo
  simp (maxDischargeDepth := 40) [h]

@[simp] theorem kept_failFeed (stage : FeedStage) (why : FeedReason) (h : Kept r s) : Kept r (State.failFeed stage why s) := by
  unfold State.failFeed
  simp (maxDischargeDepth := 40) [h]

@[simp] theorem kept_reportCarried (h : Kept r s) : Kept r (State.reportCarried s) := by
  unfold State.reportCarried
  (repeat' split) <;> simp (maxDischargeDepth := 40) [h]

@[simp] theorem kept_resolveTake (k : Nat) (verified : Bool) (x : Report) (h : Kept r s) : Kept r (State.resolveTake k verified x s) := by
  unfold State.resolveTake
  simp (maxDischargeDepth := 40) [h]

@[simp] theorem kept_resolveForeign (id : Nat) (x : Report) (h : Kept r s) : Kept r (State.resolveForeign id x s) := by
  unfold State.resolveForeign
  simp (maxDischargeDepth := 40) [h]

@[simp] theorem kept_resolveId (e : Option Nat) (id : Nat) (h : Kept r s) : Kept r (State.resolveId e id s) := by
  unfold State.resolveId
  (repeat' split) <;> simp (maxDischargeDepth := 40) [h]

@[simp] theorem kept_resolve (res : ReadResult) (h : Kept r s) : Kept r (State.resolve res s) := by
  simp only [State.resolve]
  (repeat' split) <;> simp (maxDischargeDepth := 40) [h]

@[simp] theorem kept_enterReading (h : Kept r s) : Kept r (State.enterReading s) := by
  unfold State.enterReading
  simp (maxDischargeDepth := 40) [h]

@[simp] theorem kept_enterSeating (h : Kept r s) : Kept r (State.enterSeating s) := by
  unfold State.enterSeating
  simp (maxDischargeDepth := 40) [h]

@[simp] theorem kept_openGate (h : Kept r s) : Kept r (State.openGate s) := by
  unfold State.openGate
  simp (maxDischargeDepth := 40) [h]

@[simp] theorem kept_enterFeeding (h : Kept r s) : Kept r (State.enterFeeding s) := by
  unfold State.enterFeeding
  simp (maxDischargeDepth := 40) [h]

@[simp] theorem kept_startFeed (m : FeedMode) (h : Kept r s) : Kept r (State.startFeed m s) := by
  unfold State.startFeed
  (repeat' split) <;> simp (maxDischargeDepth := 40) [h]

@[simp] theorem kept_judgeFeed (h : Kept r s) : Kept r (State.judgeFeed s) := by
  unfold State.judgeFeed
  (repeat' split) <;> simp (maxDischargeDepth := 40) [h]

@[simp] theorem kept_loadPresentRise (h : Kept r s) : Kept r (State.loadPresentRise s) := by
  unfold State.loadPresentRise
  simp (maxDischargeDepth := 40) [h]

@[simp] theorem kept_loadPresentDrop (h : Kept r s) : Kept r (State.loadPresentDrop s) := by
  unfold State.loadPresentDrop
  (repeat' split) <;> simp (maxDischargeDepth := 40) [h]

@[simp] theorem kept_headDrop (h : Kept r s) : Kept r (State.headDrop s) := by
  unfold State.headDrop
  simp (maxDischargeDepth := 40) [h]

@[simp] theorem kept_codeAnswer (h : Kept r s) : Kept r (State.codeAnswer s) := by
  unfold State.codeAnswer
  simp (maxDischargeDepth := 40) [h]

@[simp] theorem kept_feedNodeLost (a : Nat) (h : Kept r s) : Kept r (State.feedNodeLost a s) := by
  unfold State.feedNodeLost
  simp (maxDischargeDepth := 40) [h]

@[simp] theorem kept_feedRequestDone (id : RequestId) (h : Kept r s) : Kept r (State.feedRequestDone id s) := by
  unfold State.feedRequestDone
  (repeat' split) <;> simp (maxDischargeDepth := 40) [h]

@[simp] theorem kept_feedRequestTimeout (id : RequestId) (h : Kept r s) : Kept r (State.feedRequestTimeout id s) := by
  unfold State.feedRequestTimeout
  (repeat' split) <;> simp (maxDischargeDepth := 40) [h]

@[simp] theorem kept_declareEmpty (h : Kept r s) : Kept r (State.declareEmpty s) := by
  unfold State.declareEmpty
  simp (maxDischargeDepth := 40) [h]

@[simp] theorem kept_feedRestart (h : Kept r s) : Kept r (State.feedRestart s) := by
  unfold State.feedRestart
  simp (maxDischargeDepth := 40) [h]

/-! ## The Station Units -/

@[simp] theorem kept_reportFault (k : Nat) (c : FaultCause) (state : UnitState) (added : Bool) (h : Kept r s) : Kept r (State.reportFault k c state added s) := by
  unfold State.reportFault
  simp (maxDischargeDepth := 40) [h]

@[simp] theorem kept_unitFault (k : Nat) (c : FaultCause) (h : Kept r s) : Kept r (State.unitFault k c s) := by
  unfold State.unitFault
  simp (maxDischargeDepth := 40) [h]

@[simp] theorem kept_toolMoved (k : Nat) (h : Kept r s) : Kept r (State.toolMoved k s) := by
  unfold State.toolMoved
  simp (maxDischargeDepth := 40) [h]

@[simp] theorem kept_levelFault (k : Nat) (h : Kept r s) : Kept r (State.levelFault k s) := by
  unfold State.levelFault
  simp (maxDischargeDepth := 40) [h]

@[simp] theorem kept_endOperation (k : Nat) (o : Operation) (x : LogResult) (h : Kept r s) : Kept r (State.endOperation k o x s) := by
  unfold State.endOperation
  simp (maxDischargeDepth := 40) [h]

@[simp] theorem kept_completeOperation (k : Nat) (h : Kept r s) : Kept r (State.completeOperation k s) := by
  unfold State.completeOperation
  (repeat' split) <;> simp (maxDischargeDepth := 40) [h]

@[simp] theorem kept_endAbandon (k : Nat) (h : Kept r s) : Kept r (State.endAbandon k s) := by
  unfold State.endAbandon
  (repeat' split) <;> simp (maxDischargeDepth := 40) [h]

@[simp] theorem kept_enterAbandoning (k : Nat) (h : Kept r s) : Kept r (State.enterAbandoning k s) := by
  unfold State.enterAbandoning
  simp (maxDischargeDepth := 40) [h]

@[simp] theorem kept_startOperation (k id program : Nat) (serial : List Byte) (h : Kept r s) : Kept r (State.startOperation k id program serial s) := by
  unfold State.startOperation
  simp (maxDischargeDepth := 40) [h]

@[simp] theorem kept_setUnitState (k : Nat) (u : UnitState) (h : Kept r s) : Kept r (State.setUnitState k u s) := by
  unfold State.setUnitState
  simp (maxDischargeDepth := 40) [h]

@[simp] theorem kept_decide (k : Nat) (how : DecisionEnd) (h : Kept r s) : Kept r (State.decide k how s) := by
  unfold State.decide
  (repeat' split) <;> simp (maxDischargeDepth := 40) [h]

@[simp] theorem kept_endOfVerify (k : Nat) (h : Kept r s) : Kept r (State.endOfVerify k s) := by
  simp only [State.endOfVerify]
  (repeat' split) <;> simp (maxDischargeDepth := 40) [h]

@[simp] theorem kept_endOfVerifyAll (h : Kept r s) : Kept r (State.endOfVerifyAll s) := by
  unfold State.endOfVerifyAll
  simp_all (maxDischargeDepth := 40)

@[simp] theorem kept_resumeRetry (k : Nat) (x : Resume) (h : Kept r s) : Kept r (State.resumeRetry k x s) := by
  unfold State.resumeRetry
  (repeat' split) <;> simp (maxDischargeDepth := 40) [h]

@[simp] theorem kept_reportAbandoning (k : Nat) (why : AbandonReason) (h : Kept r s) : Kept r (State.reportAbandoning k why s) := by
  unfold State.reportAbandoning
  (repeat' split) <;> simp (maxDischargeDepth := 40) [h]

@[simp] theorem kept_resumeAbandon (k : Nat) (x : Resume) (h : Kept r s) : Kept r (State.resumeAbandon k x s) := by
  unfold State.resumeAbandon
  (repeat' split) <;> simp (maxDischargeDepth := 40) [h]

@[simp] theorem kept_cleared (k : Nat) (a : ClearAction) (c : FaultCause) (h : Kept r s) : Kept r (State.cleared k a c s) := by
  unfold State.cleared
  simp (maxDischargeDepth := 40) [h]

@[simp] theorem kept_finishClear (k : Nat) (a : ClearAction) (f : FaultRecord) (h : Kept r s) : Kept r (State.finishClear k a f s) := by
  unfold State.finishClear
  (repeat' split) <;> simp (maxDischargeDepth := 40) [h]

@[simp] theorem kept_reclampDone (k : Nat) (h : Kept r s) : Kept r (State.reclampDone k s) := by
  unfold State.reclampDone
  (repeat' split) <;> simp (maxDischargeDepth := 40) [h]

@[simp] theorem kept_reclampTimeout (k : Nat) (h : Kept r s) : Kept r (State.reclampTimeout k s) := by
  unfold State.reclampTimeout
  (repeat' split) <;> simp (maxDischargeDepth := 40) [h]

@[simp] theorem kept_startReclamp (k : Nat) (f : FaultRecord) (h : Kept r s) : Kept r (State.startReclamp k f s) := by
  unfold State.startReclamp
  simp (maxDischargeDepth := 40) [h]

@[simp] theorem kept_requestDone (id : RequestId) (h : Kept r s) : Kept r (State.requestDone id s) := by
  unfold State.requestDone
  (repeat' split) <;> simp (maxDischargeDepth := 40) [h]

@[simp] theorem kept_requestTimedOut (id : RequestId) (h : Kept r s) : Kept r (State.requestTimedOut id s) := by
  unfold State.requestTimedOut
  (repeat' split) <;> simp (maxDischargeDepth := 40) [h]

@[simp] theorem kept_homeDrop (k : Nat) (h : Kept r s) : Kept r (State.homeDrop k s) := by
  simp only [State.homeDrop]
  (repeat' split) <;> simp (maxDischargeDepth := 40) [h]

@[simp] theorem kept_unexpectedDone (k : Nat) (new : InputImage) (h : Kept r s) : Kept r (State.unexpectedDone k new s) := by
  unfold State.unexpectedDone
  simp (maxDischargeDepth := 40) [h]

@[simp] theorem kept_judgeCompletion (k : Nat) (old new : InputImage) (h : Kept r s) : Kept r (State.judgeCompletion k old new s) := by
  unfold State.judgeCompletion
  simp (maxDischargeDepth := 40) [h]

@[simp] theorem kept_homeDone (k : Nat) (old new : InputImage) (h : Kept r s) : Kept r (State.homeDone k old new s) := by
  simp only [State.homeDone]
  (repeat' split) <;> simp (maxDischargeDepth := 40) [h]

@[simp] theorem kept_fltChange (k : Nat) (old new : InputImage) (h : Kept r s) : Kept r (State.fltChange k old new s) := by
  unfold State.fltChange
  simp (maxDischargeDepth := 40) [h]

@[simp] theorem kept_clampedDrop (k : Nat) (old new : InputImage) (h : Kept r s) : Kept r (State.clampedDrop k old new s) := by
  unfold State.clampedDrop
  simp (maxDischargeDepth := 40) [h]

@[simp] theorem kept_unitInputs (k : Nat) (old new : InputImage) (h : Kept r s) : Kept r (State.unitInputs k old new s) := by
  unfold State.unitInputs
  simp (maxDischargeDepth := 40) [h]

@[simp] theorem kept_unitNotice (k : Nat) (carried : OutputImage) (h : Kept r s) : Kept r (State.unitNotice k carried s) := by
  unfold State.unitNotice
  simp (maxDischargeDepth := 40) [h]

@[simp] theorem kept_setClampWatches (h : Kept r s) : Kept r (State.setClampWatches s) := by
  unfold State.setClampWatches
  simp_all (maxDischargeDepth := 40)

@[simp] theorem kept_clearClampWatches (h : Kept r s) : Kept r (State.clearClampWatches s) := by
  unfold State.clearClampWatches
  simp (maxDischargeDepth := 40) [h]

@[simp] theorem kept_readTopUp (c : ChannelId) (p : Pulse) (h : Kept r s) : Kept r (State.readTopUp c p s) := by
  unfold State.readTopUp
  (repeat' split) <;> simp (maxDischargeDepth := 40) [h]

@[simp] theorem kept_endPulse (c : ChannelId) (h : Kept r s) : Kept r (State.endPulse c s) := by
  unfold State.endPulse
  (repeat' split) <;> simp (maxDischargeDepth := 40) [h]

@[simp] theorem kept_interrupt (k : Nat) (h : Kept r s) : Kept r (State.interrupt k s) := by
  unfold State.interrupt
  (repeat' split) <;> simp (maxDischargeDepth := 40) [h]

@[simp] theorem kept_restartFaulted (k : Nat) (f : FaultRecord) (h : Kept r s) : Kept r (State.restartFaulted k f s) := by
  unfold State.restartFaulted
  (repeat' split) <;> simp (maxDischargeDepth := 40) [h]

@[simp] theorem kept_unitRestart (k : Nat) (h : Kept r s) : Kept r (State.unitRestart k s) := by
  simp only [State.unitRestart]
  (repeat' split) <;> simp (maxDischargeDepth := 40) [h]

@[simp] theorem kept_unitsRestart (h : Kept r s) : Kept r (State.unitsRestart s) := by
  unfold State.unitsRestart
  simp_all (maxDischargeDepth := 40)

/-! ## The Index Sequencer -/

@[simp] theorem kept_enterPhase (ph : Phase) (h : Kept r s) : Kept r (State.enterPhase ph s) := by
  unfold State.enterPhase
  simp (maxDischargeDepth := 40) [h]

@[simp] theorem kept_enterWait (why : LineReason) (h : Kept r s) : Kept r (State.enterWait why s) := by
  unfold State.enterWait
  simp (maxDischargeDepth := 40) [h]

@[simp] theorem kept_askStroke (d : Direction) (target : Int) (h : Kept r s) : Kept r (State.askStroke d target s).1 := by
  simp only [State.askStroke]
  (repeat' split) <;> simp (maxDischargeDepth := 40) [h]

@[simp] theorem kept_reportRecovered (h : Kept r s) : Kept r (State.reportRecovered s) := by
  unfold State.reportRecovered
  simp (maxDischargeDepth := 40) [h]

@[simp] theorem kept_endIndex (h : Kept r s) : Kept r (State.endIndex s) := by
  unfold State.endIndex
  simp (maxDischargeDepth := 40) [h]

@[simp] theorem kept_startReturn (h : Kept r s) : Kept r (State.startReturn s) := by
  unfold State.startReturn
  simp (maxDischargeDepth := 40) [h]

@[simp] theorem kept_closeBackward (h : Kept r s) : Kept r (State.closeBackward s) := by
  unfold State.closeBackward
  simp (maxDischargeDepth := 40) [h]

@[simp] theorem kept_startVerify (h : Kept r s) : Kept r (State.startVerify s) := by
  simp only [State.startVerify]
  (repeat' split) <;> simp (maxDischargeDepth := 40) [h]

@[simp] theorem kept_clampDone (h : Kept r s) : Kept r (State.clampDone s) := by
  unfold State.clampDone
  simp (maxDischargeDepth := 40) [h]

@[simp] theorem kept_startClamp (h : Kept r s) : Kept r (State.startClamp s) := by
  unfold State.startClamp
  simp (maxDischargeDepth := 40) [h]

@[simp] theorem kept_locateDone (h : Kept r s) : Kept r (State.locateDone s) := by
  unfold State.locateDone
  simp (maxDischargeDepth := 40) [h]

@[simp] theorem kept_startLocate (h : Kept r s) : Kept r (State.startLocate s) := by
  unfold State.startLocate
  simp (maxDischargeDepth := 40) [h]

@[simp] theorem kept_lowerDone (h : Kept r s) : Kept r (State.lowerDone s) := by
  unfold State.lowerDone
  (repeat' split) <;> simp (maxDischargeDepth := 40) [h]

@[simp] theorem kept_startLower (h : Kept r s) : Kept r (State.startLower s) := by
  unfold State.startLower
  simp (maxDischargeDepth := 40) [h]

@[simp] theorem kept_advanceDone (h : Kept r s) : Kept r (State.advanceDone s) := by
  unfold State.advanceDone
  simp (maxDischargeDepth := 40) [h]

@[simp] theorem kept_strokeDone (h : Kept r s) : Kept r (State.strokeDone s) := by
  unfold State.strokeDone
  (repeat' split) <;> simp (maxDischargeDepth := 40) [h]

@[simp] theorem kept_recoveryStroke (d : Direction) (target : Int) (h : Kept r s) : Kept r (State.recoveryStroke d target s) := by
  unfold State.recoveryStroke
  simp (maxDischargeDepth := 40) [h]

@[simp] theorem kept_startAdvance (h : Kept r s) : Kept r (State.startAdvance s) := by
  simp only [State.startAdvance]
  (repeat' split) <;> simp (maxDischargeDepth := 40) [h]

@[simp] theorem kept_liftDone (h : Kept r s) : Kept r (State.liftDone s) := by
  simp only [State.liftDone]
  (repeat' split) <;> simp (maxDischargeDepth := 40) [h]

@[simp] theorem kept_startLift (h : Kept r s) : Kept r (State.startLift s) := by
  unfold State.startLift
  simp (maxDischargeDepth := 40) [h]

@[simp] theorem kept_withdrawDone (h : Kept r s) : Kept r (State.withdrawDone s) := by
  unfold State.withdrawDone
  simp (maxDischargeDepth := 40) [h]

@[simp] theorem kept_startWithdraw (h : Kept r s) : Kept r (State.startWithdraw s) := by
  unfold State.startWithdraw
  simp (maxDischargeDepth := 40) [h]

@[simp] theorem kept_releaseDone (h : Kept r s) : Kept r (State.releaseDone s) := by
  unfold State.releaseDone
  simp (maxDischargeDepth := 40) [h]

@[simp] theorem kept_startRelease (h : Kept r s) : Kept r (State.startRelease s) := by
  unfold State.startRelease
  simp (maxDischargeDepth := 40) [h]

@[simp] theorem kept_startIndex (h : Kept r s) : Kept r (State.startIndex s) := by
  unfold State.startIndex
  exact kept_startRelease (kept_modPrg _ (kept_modIsq _ h rfl rfl) rfl rfl)

@[simp] theorem kept_judgeReady (h : Kept r s) : Kept r (State.judgeReady s) := by
  unfold State.judgeReady
  simp (maxDischargeDepth := 40) [h]

@[simp] theorem kept_judge (h : Kept r s) : Kept r (State.judge s) := by
  unfold State.judge
  simp (maxDischargeDepth := 40) [h]

@[simp] theorem kept_commandDone (ph : Phase) (h : Kept r s) : Kept r (State.commandDone ph s) := by
  unfold State.commandDone
  (repeat' split) <;> simp (maxDischargeDepth := 40) [h]

@[simp] theorem kept_judgeCommand (h : Kept r s) : Kept r (State.judgeCommand s) := by
  unfold State.judgeCommand
  (repeat' split) <;> simp (maxDischargeDepth := 40) [h]

@[simp] theorem kept_liftChanged (h : Kept r s) : Kept r (State.liftChanged s) := by
  simp only [State.liftChanged]
  (repeat' split) <;> simp (maxDischargeDepth := 40) [h]

@[simp] theorem kept_judgeRequests (h : Kept r s) : Kept r (State.judgeRequests s) := by
  unfold State.judgeRequests
  simp_all (maxDischargeDepth := 40)

@[simp] theorem kept_commandExpired (h : Kept r s) : Kept r (State.commandExpired s) := by
  unfold State.commandExpired
  (repeat' split) <;> simp (maxDischargeDepth := 40) [h]

@[simp] theorem kept_movementExpired (h : Kept r s) : Kept r (State.movementExpired s) := by
  unfold State.movementExpired
  (repeat' split) <;> simp (maxDischargeDepth := 40) [h]

@[simp] theorem kept_seatDrop (p : Nat) (h : Kept r s) : Kept r (State.seatDrop p s) := by
  unfold State.seatDrop
  (repeat' split) <;> simp (maxDischargeDepth := 40) [h]

@[simp] theorem kept_lineLosesNode (a : Nat) (h : Kept r s) : Kept r (State.lineLosesNode a s) := by
  unfold State.lineLosesNode
  simp (maxDischargeDepth := 40) [h]

@[simp] theorem kept_startRecovery (dir : Course) (ph : Phase) (h : Kept r s) : Kept r (State.startRecovery dir ph s) := by
  unfold State.startRecovery
  (repeat' split) <;> simp (maxDischargeDepth := 40) [h]

@[simp] theorem kept_recover (dir : Course) (halt : Phase) (h : Kept r s) : Kept r (State.recover dir halt s) := by
  simp only [State.recover]
  (repeat' split) <;> simp (maxDischargeDepth := 40) [h]

/-! ## The tick -/

@[simp] theorem kept_measure (f : Int) (h : Kept r s) : Kept r (State.measure f s) := by
  unfold State.measure
  simp (maxDischargeDepth := 40) [h]

@[simp] theorem kept_takeSettle (h : Kept r s) : Kept r (State.takeSettle s) := by
  unfold State.takeSettle
  simp (maxDischargeDepth := 40) [h]

@[simp] theorem kept_strokeTick (before : Motion) (f : Option Feedback) (h : Kept r s) : Kept r (State.strokeTick before f s) := by
  unfold State.strokeTick
  (repeat' split) <;> simp (maxDischargeDepth := 40) [h]

@[simp] theorem kept_quickTick (h : Kept r s) : Kept r (State.quickTick s) := by
  unfold State.quickTick
  simp (maxDischargeDepth := 40) [h]

@[simp] theorem kept_driveCause (c : Cause) (h : Kept r s) : Kept r (State.driveCause c s) := by
  unfold State.driveCause
  simp (maxDischargeDepth := 40) [h]

@[simp] theorem kept_motionWork (before : Motion) (f : Option Feedback) (caused : Bool) (h : Kept r s) : Kept r (State.motionWork before f caused s) := by
  unfold State.motionWork
  (repeat' split) <;> simp (maxDischargeDepth := 40) [h]

@[simp] theorem kept_motionTick (h : Kept r s) : Kept r (State.motionTick s) := by
  simp only [State.motionTick]
  (repeat' split) <;> simp (maxDischargeDepth := 40) [h]

@[simp] theorem kept_settleExpired (h : Kept r s) : Kept r (State.settleExpired s) := by
  unfold State.settleExpired
  simp (maxDischargeDepth := 40) [h]

/-! ## Handlers of requests -/

@[simp] theorem kept_refuse (why : Reason) (h : Kept r s) : Kept r (State.refuse why s).2 := by
  unfold State.refuse
  simp (maxDischargeDepth := 40) [h]

@[simp] theorem kept_doIdent (h : Kept r s) : Kept r (State.doIdent s).2 := by
  unfold State.doIdent
  simp (maxDischargeDepth := 40) [h]

@[simp] theorem kept_doQueryStatus (h : Kept r s) : Kept r (State.doQueryStatus s).2 := by
  unfold State.doQueryStatus
  simp (maxDischargeDepth := 40) [h]

@[simp] theorem kept_doQueryStation (station : Byte) (h : Kept r s) : Kept r (State.doQueryStation station s).2 := by
  simp only [State.doQueryStation]
  (repeat' split) <;> simp (maxDischargeDepth := 40) [h]

@[simp] theorem kept_doQueryPallet (id : Byte) (h : Kept r s) : Kept r (State.doQueryPallet id s).2 := by
  unfold State.doQueryPallet
  (repeat' split) <;> simp (maxDischargeDepth := 40) [h]

@[simp] theorem kept_doQueryMap (h : Kept r s) : Kept r (State.doQueryMap s).2 := by
  unfold State.doQueryMap
  simp (maxDischargeDepth := 40) [h]

@[simp] theorem kept_doQueryQueue (h : Kept r s) : Kept r (State.doQueryQueue s).2 := by
  unfold State.doQueryQueue
  simp (maxDischargeDepth := 40) [h]

@[simp] theorem kept_configured (first : Bool) (h : Kept r s) : Kept r (State.configured first s) := by
  unfold State.configured
  simp (maxDischargeDepth := 40) [h]

@[simp] theorem kept_policyChange (old : LoadPolicy) (h : Kept r s) : Kept r (State.policyChange old s) := by
  unfold State.policyChange
  simp (maxDischargeDepth := 40) [h]

@[simp] theorem kept_applyStation (k : Nat) (c : StationConfig) (h : Kept r s) : Kept r (State.applyStation k c s) := by
  unfold State.applyStation
  simp (maxDischargeDepth := 40) [h]

@[simp] theorem kept_doSetStation (f : StationFields) (h : Kept r s) : Kept r (State.doSetStation f s).2 := by
  simp only [State.doSetStation]
  (repeat' split) <;> simp (maxDischargeDepth := 40) [h]

@[simp] theorem kept_doCamWrite (bank start : Byte) (l : List PointFields) (h : Kept r s) : Kept r (State.doCamWrite bank start l s).2 := by
  simp only [State.doCamWrite]
  (repeat' split) <;> simp (maxDischargeDepth := 40) [h]

@[simp] theorem kept_doCamArm (bank : Byte) (h : Kept r s) : Kept r (State.doCamArm bank s).2 := by
  unfold State.doCamArm
  (repeat' split) <;> simp (maxDischargeDepth := 40) [h]

@[simp] theorem kept_doCamDisarm (bank : Byte) (h : Kept r s) : Kept r (State.doCamDisarm bank s).2 := by
  unfold State.doCamDisarm
  (repeat' split) <;> simp (maxDischargeDepth := 40) [h]

@[simp] theorem kept_doTrial (bank : Byte) (h : Kept r s) : Kept r (State.doTrial bank s).2 := by
  unfold State.doTrial
  (repeat' split) <;> simp (maxDischargeDepth := 40) [h]

@[simp] theorem kept_doEnrolTail (id : Byte) (h : Kept r s) : Kept r (State.doEnrolTail id s).2 := by
  unfold State.doEnrolTail
  (repeat' split) <;> simp (maxDischargeDepth := 40) [h]

@[simp] theorem kept_doEnrolLoad (id : Byte) (h : Kept r s) : Kept r (State.doEnrolLoad id s).2 := by
  unfold State.doEnrolLoad
  (repeat' split) <;> simp (maxDischargeDepth := 40) [h]

@[simp] theorem kept_doEnrol (place id : Byte) (h : Kept r s) : Kept r (State.doEnrol place id s).2 := by
  unfold State.doEnrol
  (repeat' split) <;> simp (maxDischargeDepth := 40) [h]

@[simp] theorem kept_putPallet (id p : Nat) (x : Option Block) (h : Kept r s) : Kept r (State.putPallet id p x s) := by
  unfold State.putPallet
  (repeat' split) <;> simp (maxDischargeDepth := 40) [h]

@[simp] theorem kept_afterPlace (p : Nat) (h : Kept r s) : Kept r (State.afterPlace p s) := by
  unfold State.afterPlace
  (repeat' split) <;> simp (maxDischargeDepth := 40) [h]

@[simp] theorem kept_doPlace (id p : Byte) (f : Option BlockFields) (h : Kept r s) : Kept r (State.doPlace id p f s).2 := by
  unfold State.doPlace
  (repeat' split) <;> simp (maxDischargeDepth := 40) [h]

@[simp] theorem kept_afterUnplace (p : Nat) (h : Kept r s) : Kept r (State.afterUnplace p s) := by
  unfold State.afterUnplace
  simp (maxDischargeDepth := 40) [h]

@[simp] theorem kept_doUnplace (p : Byte) (h : Kept r s) : Kept r (State.doUnplace p s).2 := by
  unfold State.doUnplace
  (repeat' split) <;> simp (maxDischargeDepth := 40) [h]

@[simp] theorem kept_doAdmit (id : Byte) (resetCount : Bool) (h : Kept r s) : Kept r (State.doAdmit id resetCount s).2 := by
  unfold State.doAdmit
  (repeat' split) <;> simp (maxDischargeDepth := 40) [h]

@[simp] theorem kept_doWithdraw (id : Byte) (h : Kept r s) : Kept r (State.doWithdraw id s).2 := by
  unfold State.doWithdraw
  (repeat' split) <;> simp (maxDischargeDepth := 40) [h]

@[simp] theorem kept_doRetire (id : Byte) (h : Kept r s) : Kept r (State.doRetire id s).2 := by
  unfold State.doRetire
  (repeat' split) <;> simp (maxDischargeDepth := 40) [h]

@[simp] theorem kept_loadReady (h : Kept r s) : Kept r (State.loadReady s) := by
  unfold State.loadReady
  simp (maxDischargeDepth := 40) [h]

@[simp] theorem kept_doAssign (serial : List Byte) (variant : Byte) (h : Kept r s) : Kept r (State.doAssign serial variant s).2 := by
  unfold State.doAssign
  (repeat' split) <;> simp (maxDischargeDepth := 40) [h]

@[simp] theorem kept_doEmpty (h : Kept r s) : Kept r (State.doEmpty s).2 := by
  unfold State.doEmpty
  (repeat' split) <;> simp (maxDischargeDepth := 40) [h]

@[simp] theorem kept_doDispose (id d : Byte) (h : Kept r s) : Kept r (State.doDispose id d s).2 := by
  unfold State.doDispose
  (repeat' split) <;> simp (maxDischargeDepth := 40) [h]

@[simp] theorem kept_doService (inService : Bool) (station : Byte) (h : Kept r s) : Kept r (State.doService inService station s).2 := by
  simp only [State.doService]
  (repeat' split) <;> simp (maxDischargeDepth := 40) [h]

@[simp] theorem kept_clearFault (k : Nat) (retry : Bool) (f : FaultRecord) (h : Kept r s) : Kept r (State.clearFault k retry f s).2 := by
  unfold State.clearFault
  (repeat' split) <;> simp (maxDischargeDepth := 40) [h]

@[simp] theorem kept_doFaultClear (station action : Byte) (h : Kept r s) : Kept r (State.doFaultClear station action s).2 := by
  simp only [State.doFaultClear]
  (repeat' split) <;> simp (maxDischargeDepth := 40) [h]

@[simp] theorem kept_startRun (h : Kept r s) : Kept r (State.startRun s) := by
  unfold State.startRun
  simp (maxDischargeDepth := 40) [h]

@[simp] theorem kept_doRun (h : Kept r s) : Kept r (State.doRun s).2 := by
  unfold State.doRun
  (repeat' split) <;> simp (maxDischargeDepth := 40) [h]

@[simp] theorem kept_doHold (h : Kept r s) : Kept r (State.doHold s).2 := by
  unfold State.doHold
  simp (maxDischargeDepth := 40) [h]

@[simp] theorem kept_stopLine (h : Kept r s) : Kept r (State.stopLine s) := by
  unfold State.stopLine
  simp (maxDischargeDepth := 40) [h]

@[simp] theorem kept_doStop (h : Kept r s) : Kept r (State.doStop s).2 := by
  unfold State.doStop
  simp (maxDischargeDepth := 40) [h]

@[simp] theorem kept_doRecover (direction : Byte) (h : Kept r s) : Kept r (State.doRecover direction s).2 := by
  unfold State.doRecover
  (repeat' split) <;> simp (maxDischargeDepth := 40) [h]

@[simp] theorem kept_doEcho (l : List Byte) (h : Kept r s) : Kept r (State.doEcho l s).2 := by
  unfold State.doEcho
  (repeat' split) <;> simp (maxDischargeDepth := 40) [h]

@[simp] theorem kept_lineRestart (h : Kept r s) : Kept r (State.lineRestart s) := by
  unfold State.lineRestart
  (repeat' split) <;> simp (maxDischargeDepth := 40) [h]

@[simp] theorem kept_motionRestart (h : Kept r s) : Kept r (State.motionRestart s) := by
  unfold State.motionRestart
  simp (maxDischargeDepth := 40) [h]

@[simp] theorem kept_auxRestart (h : Kept r s) : Kept r (State.auxRestart s) := by
  unfold State.auxRestart
  simp (maxDischargeDepth := 40) [h]

/-! ## The Ring Controller -/

@[simp] theorem kept_modNode (a : Nat) (f : Node → Node) (h : Kept r s) : Kept r (State.modNode a f s) := by
  unfold State.modNode
  simp (maxDischargeDepth := 40) [h]

@[simp] theorem kept_handLoss (a : Nat) (h : Kept r s) : Kept r (State.handLoss a s) := by
  unfold State.handLoss
  simp (maxDischargeDepth := 40) [h]

@[simp] theorem kept_missNode (a : Nat) (h : Kept r s) : Kept r (State.missNode a s) := by
  unfold State.missNode
  (repeat' split) <;> simp (maxDischargeDepth := 40) [h]

@[simp] theorem kept_startingImage (a : Nat) (h : Kept r s) : Kept r (State.startingImage a s) := by
  unfold State.startingImage
  simp (maxDischargeDepth := 40) [h]

@[simp] theorem kept_loadInputs (old new : InputImage) (h : Kept r s) : Kept r (State.loadInputs old new s) := by
  unfold State.loadInputs
  simp (maxDischargeDepth := 40) [h]

@[simp] theorem kept_unloadInputs (a : Nat) (old new : InputImage) (h : Kept r s) : Kept r (State.unloadInputs a old new s) := by
  unfold State.unloadInputs
  simp (maxDischargeDepth := 40) [h]

@[simp] theorem kept_stationInputs (k : Nat) (old new : InputImage) (h : Kept r s) : Kept r (State.stationInputs k old new s) := by
  unfold State.stationInputs
  simp (maxDischargeDepth := 40) [h]

@[simp] theorem kept_lineInputs (old new : InputImage) (h : Kept r s) : Kept r (State.lineInputs old new s) := by
  unfold State.lineInputs
  simp (maxDischargeDepth := 40) [h]

@[simp] theorem kept_deliver (a : Nat) (old new : InputImage) (h : Kept r s) : Kept r (State.deliver a old new s) := by
  unfold State.deliver
  simp (maxDischargeDepth := 40) [h]

@[simp] theorem kept_notice (a : Nat) (carried : OutputImage) (h : Kept r s) : Kept r (State.notice a carried s) := by
  unfold State.notice
  simp (maxDischargeDepth := 40) [h]

@[simp] theorem kept_handAnswer (before : Node) (carried : OutputImage) (new : InputImage) (h : Kept r s) : Kept r (State.handAnswer before carried new s) := by
  unfold State.handAnswer
  (repeat' split) <;> simp (maxDischargeDepth := 40) [h]

@[simp] theorem kept_holdImages (l : List (Nat × OutputImage × Option InputImage)) (h : Kept r s) : Kept r (State.holdImages l s) := by
  unfold State.holdImages
  exact kept_foldl _ _ (fun t e k => by split <;> simp (maxDischargeDepth := 40) [k]) h

@[simp] theorem kept_handSlots (before : State) (l : List (Nat × OutputImage × Option InputImage)) (h : Kept r s) : Kept r (State.handSlots before l s) := by
  unfold State.handSlots
  exact kept_foldl _ _ (fun t e k => by split <;> simp (maxDischargeDepth := 40) [k]) h

@[simp] theorem kept_judgeScan (h : Kept r s) : Kept r (State.judgeScan s) := by
  unfold State.judgeScan
  simp (maxDischargeDepth := 40) [h]

@[simp] theorem kept_missScan (c : Scan) (h : Kept r s) : Kept r (State.missScan c s) := by
  unfold State.missScan
  simp_all (maxDischargeDepth := 40)

@[simp] theorem kept_closeScan (h : Kept r s) : Kept r (State.closeScan s) := by
  unfold State.closeScan
  simp (maxDischargeDepth := 40) [h]

@[simp] theorem kept_takeRingFrame (l : List Byte) (h : Kept r s) : Kept r (State.takeRingFrame l s) := by
  unfold State.takeRingFrame
  (repeat' split) <;> simp (maxDischargeDepth := 40) [h]

@[simp] theorem kept_openScan (h : Kept r s) : Kept r (State.openScan s) := by
  unfold State.openScan
  simp (maxDischargeDepth := 40) [h]

@[simp] theorem kept_takeScan (h : Kept r s) : Kept r (State.takeScan s) := by
  unfold State.takeScan
  (repeat' split) <;> simp (maxDischargeDepth := 40) [h]

/-! ## Expiries -/

@[simp] theorem kept_keepFeedback (bytes : List Byte) (h : Kept r s) : Kept r (State.keepFeedback bytes s) := by
  unfold State.keepFeedback
  (repeat' split) <;> simp (maxDischargeDepth := 40) [h]

@[simp] theorem kept_stage1Expires (k : Nat) (h : Kept r s) : Kept r (State.stage1Expires k s) := by
  simp only [State.stage1Expires]
  (repeat' split) <;> simp (maxDischargeDepth := 40) [h]

@[simp] theorem kept_overrun (k : Nat) (h : Kept r s) : Kept r (State.overrun k s) := by
  unfold State.overrun
  (repeat' split) <;> simp (maxDischargeDepth := 40) [h]

@[simp] theorem kept_stage2Expires (k : Nat) (h : Kept r s) : Kept r (State.stage2Expires k s) := by
  unfold State.stage2Expires
  simp (maxDischargeDepth := 40) [h]

@[simp] theorem kept_waitExpires (h : Kept r s) : Kept r (State.waitExpires s) := by
  unfold State.waitExpires
  simp (maxDischargeDepth := 40) [h]

@[simp] theorem kept_staggerExpires (h : Kept r s) : Kept r (State.staggerExpires s) := by
  unfold State.staggerExpires
  (repeat' split) <;> simp (maxDischargeDepth := 40) [h]

@[simp] theorem kept_requestExpires (id : RequestId) (h : Kept r s) : Kept r (State.requestExpires id s) := by
  unfold State.requestExpires
  simp (maxDischargeDepth := 40) [h]

@[simp] theorem kept_topUpExpires (h : Kept r s) : Kept r (State.topUpExpires s) := by
  unfold State.topUpExpires
  simp (maxDischargeDepth := 40) [h]

@[simp] theorem kept_topUpStaggerExpires (h : Kept r s) : Kept r (State.topUpStaggerExpires s) := by
  unfold State.topUpStaggerExpires
  (repeat' split) <;> simp (maxDischargeDepth := 40) [h]

@[simp] theorem kept_feedExpires (h : Kept r s) : Kept r (State.feedExpires s) := by
  unfold State.feedExpires
  simp (maxDischargeDepth := 40) [h]

@[simp] theorem kept_readExpires (h : Kept r s) : Kept r (State.readExpires s) := by
  unfold State.readExpires
  simp (maxDischargeDepth := 40) [h]

@[simp] theorem kept_loadWaitExpires (h : Kept r s) : Kept r (State.loadWaitExpires s) := by
  unfold State.loadWaitExpires
  (repeat' split) <;> simp (maxDischargeDepth := 40) [h]

/-! ## Requests

SET LINE, SET ROUTE, REPORT MASK and RESTART change settings, routes, the mask, or the request queue. -/

/-- What every request leaves: the command queue, the time base, RST, and CLU but for its request queue, reports
and mask. -/
structure LinkKept (r s : State) : Prop where
  inReset : s.inReset = r.inReset
  pending : s.pending = r.pending
  timeBase : s.timeBase = r.timeBase
  units : r.stu.length = Config.maxStations → s.stu.length = Config.maxStations
  framer : s.clu.framer = r.clu.framer
  breakSeen : s.clu.breakSeen = r.clu.breakSeen
  requests : s.clu.requestQueue = r.clu.requestQueue ∨ s.clu.requestQueue = []
  slot : s.clu.replySlot = r.clu.replySlot
  busyList : s.clu.busyList = r.clu.busyList
  busyAhead : s.clu.busyAhead = r.clu.busyAhead
  transmitting : s.clu.transmitting = r.clu.transmitting
  rate : s.clu.rate = r.clu.rate
  counts : s.clu.counts = r.clu.counts
  room : r.clu.reports.length ≤ Config.reportSlots → s.clu.reports.length ≤ Config.reportSlots

theorem Kept.toLink {r s : State} (h : Kept r s) : LinkKept r s := by
  have k := h.link
  simp only [Clu.apart, Clu.mk.injEq] at k
  exact ⟨h.inReset, h.pending, h.timeBase, fun x => h.units.trans x, k.1, k.2.1, .inl k.2.2.1, k.2.2.2.1, k.2.2.2.2.1,
    k.2.2.2.2.2.1, k.2.2.2.2.2.2.2.2.1, k.2.2.2.2.2.2.2.2.2.2.2.1, k.2.2.2.2.2.2.2.2.2.2.2.2, h.room⟩

theorem LinkKept.trans {r s t : State} (h : LinkKept r s) (k : LinkKept s t) : LinkKept r t :=
  ⟨k.1.trans h.1, k.2.trans h.2, k.3.trans h.3, fun x => k.4 (h.4 x), k.5.trans h.5, k.6.trans h.6,
    k.7.elim (fun e => h.7.elim (fun d => .inl (e.trans d)) fun d => .inr (e.trans d)) .inr,
    k.8.trans h.8, k.9.trans h.9, k.10.trans h.10, k.11.trans h.11, k.12.trans h.12, k.13.trans h.13,
    fun x => k.14 (h.14 x)⟩

theorem linkKept_writeLine (f : LineFields) (n : Nat) (s : State) : LinkKept s (s.writeLine f n) :=
  ⟨rfl, rfl, rfl, fun _ => by simp [State.writeLine], rfl, rfl, .inl rfl, rfl, rfl, rfl, rfl, rfl, rfl, id⟩

/-- SET LINE after its fields are written is the work of blocks. -/
theorem kept_applyLine (f : LineFields) (s : State) : Kept (s.writeLine f (given f.n s.n)) (s.applyLine f) := by
  unfold State.applyLine State.configured State.policyChange
  simp (maxDischargeDepth := 40)

theorem linkKept_doSetLine (f : LineFields) (s : State) : LinkKept s (s.doSetLine f).2 := by
  unfold State.doSetLine
  split
  · exact (Kept.refl s).toLink
  · exact (linkKept_writeLine _ _ s).trans (kept_applyLine f s).toLink

theorem linkKept_doSetRoute (v : Byte) (l : List Byte) (s : State) : LinkKept s (s.doSetRoute v l).2 := by
  unfold State.doSetRoute
  (repeat' split) <;> exact ⟨rfl, rfl, rfl, id, rfl, rfl, .inl rfl, rfl, rfl, rfl, rfl, rfl, rfl, id⟩

theorem linkKept_doReportMask (e t : Bool) (s : State) : LinkKept s (s.doReportMask e t).2 :=
  ⟨rfl, rfl, rfl, id, rfl, rfl, .inl rfl, rfl, rfl, rfl, rfl, rfl, rfl, id⟩

theorem linkKept_cluRestart (s : State) : LinkKept s s.cluRestart :=
  LinkKept.trans (s := s.modClu fun c =>
      { c with requestQueue := [], reports := [], overflow := { alarms := 0, events := 0, traces := 0, first := none } })
    ⟨rfl, rfl, rfl, id, rfl, rfl, .inr rfl, rfl, rfl, rfl, rfl, rfl, rfl, fun _ => Nat.zero_le _⟩
    (kept_report _ (Kept.refl _)).toLink

/-- RESTART after CLU's part is the work of blocks. -/
theorem kept_restartAll (s : State) : Kept s.cluRestart s.restartAll := by
  unfold State.restartAll
  simp (maxDischargeDepth := 40)

theorem linkKept_doRestart (s : State) : LinkKept s s.doRestart.2 :=
  (linkKept_cluRestart s).trans (kept_restartAll s).toLink

/-- What every request leaves. -/
theorem linkKept_perform (q : Request) (s : State) : LinkKept s (q.perform s).2 := by
  have r0 := Kept.refl s
  cases q <;> simp only [Request.perform]
  case setLine f => exact linkKept_doSetLine f s
  case setRoute v l => exact linkKept_doSetRoute v l s
  case reportMask e t => exact linkKept_doReportMask e t s
  case restart => exact linkKept_doRestart s
  all_goals exact Kept.toLink (by simp (maxDischargeDepth := 40))

theorem linkKept_performIn (q : Request) (n : Nat) (s : State) : LinkKept s (q.performIn n s).2 := by
  unfold Request.performIn
  split
  · exact linkKept_perform q s
  · exact Kept.toLink (Kept.refl s)

end Sys2Proof.Machine
end

