-- ==== Sys2Proof/Laws/Link.lean ====
section
/-! SUPPORT. What an event leaves of the Cell Link Unit when a frame is being sent: the whole of its work is the
placing of one reply and OVERFLOW. -/

namespace Sys2Proof.Machine

/-- With a frame being sent and no request to execute, the end of an event queues OVERFLOW alone. -/
theorem settleLink_calm {s : State} (ht : s.clu.transmitting.isSome = true)
    (hq : s.clu.replySlot.isSome = true ∨ s.clu.requestQueue = []) : s.settleLink = s.flushOverflow := by
  have h1 : s.serve = s := by
    unfold State.serve
    rcases hq with h | h
    · cases hs : s.clu.replySlot with
      | none => simp [hs] at h
      | some x => rfl
    · rw [h]; cases s.clu.replySlot <;> rfl
  have tr : ∀ t : State, t.clu.transmitting.isSome = true → t.transmit = t := by
    intro t h
    unfold State.transmit
    cases hs : t.clu.transmitting with
    | none => simp [hs] at h
    | some x => rfl
  unfold State.settleLink
  rw [h1, tr s ht]
  apply tr
  unfold State.flushOverflow
  (repeat' split) <;> simpa using ht

/-- A frame being sent is not touched at the start of an event. -/
theorem transmit_busy {s : State} (h : s.clu.transmitting.isSome = true) : s.transmit = s := by
  unfold State.transmit
  cases hs : s.clu.transmitting with
  | none => simp [hs] at h
  | some x => rfl

/-- The event of a block's work on a calm link is that work and OVERFLOW. -/
theorem event_calm {s : State} (f : State → State) (h : s.Calm) (hf : LinkKept s (f s)) :
    s.event f = (f s).flushOverflow := by
  obtain ⟨h0, h1, h2⟩ := h
  unfold State.event
  rw [if_neg (by simp [h0]), transmit_busy h1]
  apply settleLink_calm
  · rw [hf.transmitting]; exact h1
  · rw [hf.slot]
    rcases h2 with h | h
    · exact .inl h
    · rcases hf.requests with e | e
      · exact .inr (e.trans h)
      · exact .inr e

/-- A request on a free link is executed, its reply placed, OVERFLOW queued. -/
theorem requestEvent_free {s : State} (q : Request) (tag : Byte) (h : s.Free) :
    s.requestEvent q tag =
      (q.performIn q.payload.length s).2.answered q.kind tag (q.performIn q.payload.length s).1 := by
  obtain ⟨h0, h1, h2, h3⟩ := h
  have k := linkKept_performIn q q.payload.length s
  unfold State.requestEvent State.event State.answered
  rw [if_neg (by simp [h0]), transmit_busy h1]
  unfold State.submit
  rw [if_pos ⟨by simp [h2], h3⟩]
  refine settleLink_calm ?_ (.inl rfl)
  show (q.performIn q.payload.length s).2.clu.transmitting.isSome = true
  rw [k.transmitting]; exact h1

/-- A payload within a frame goes to the owning block. -/
theorem performIn_fits {q : Request} {n : Nat} (s : State) (h : n ≤ Config.maxPayload) : q.performIn n s = q.perform s :=
  if_pos h

/-- A longer payload is BAD_LENGTH (R170). -/
theorem performIn_long {q : Request} {n : Nat} (s : State) (h : Config.maxPayload < n) :
    q.performIn n s = (.refused .badLength [], s) := if_neg (by omega)

/-- OVERFLOW is not queued while no report has been lost. -/
theorem flushOverflow_clear {s : State} (h : s.clu.overflow.first = none) : s.flushOverflow = s := by
  unfold State.flushOverflow
  rw [h]

end Sys2Proof.Machine
end

