-- ==== Sys2Proof/Laws/Parts.lean ====
section
/-! SUPPORT. One lemma for each of several shared operations: what a pulse request leaves, what a feed fault and a PRESENT
drop leave of the load hold, when a phase command is met, the lift judgement, the plan of no distance, the changes of one
unit, an append, the swap of the banks, the length of SET LINE. -/

namespace Sys2Proof.Machine

/-! ## Pulse requests (R96) -/

/-- A pulse request changes the channels and the seat-clear marks alone. -/
theorem requestPulse_leaves (s : State) (c : ChannelId) (x : Side) (w : Requester) :
    (s.requestPulse c x w).rgc = s.rgc ∧ (s.requestPulse c x w).sct.command = s.sct.command ∧
      (s.requestPulse c x w).sct.movement = s.sct.movement ∧ (s.requestPulse c x w).sct.settings = s.sct.settings := by
  unfold State.requestPulse
  repeat' split
  all_goals (first | exact ⟨rfl, rfl, rfl, rfl⟩ |
    (simp only [State.startPulse, State.modChannel, State.clearMark]; repeat' split))
  all_goals exact ⟨rfl, rfl, rfl, rfl⟩

/-- The same request on several channels leaves what one leaves. -/
theorem requestPulses_leaves (l : List ChannelId) (s : State) (x : Side) (w : Requester) :
    (s.requestPulses l x w).rgc = s.rgc ∧ (s.requestPulses l x w).sct.command = s.sct.command ∧
      (s.requestPulses l x w).sct.movement = s.sct.movement ∧ (s.requestPulses l x w).sct.settings = s.sct.settings := by
  induction l generalizing s with
  | nil => exact ⟨rfl, rfl, rfl, rfl⟩
  | cons a l ih =>
    obtain ⟨h1, h2, h3, h4⟩ := requestPulse_leaves s a x w
    obtain ⟨k1, k2, k3, k4⟩ := ih (s.requestPulse a x w)
    exact ⟨k1.trans h1, k2.trans h2, k3.trans h3, k4.trans h4⟩

/-- A pulse of the lift touches no mark. -/
theorem requestPulse_lift_isq (s : State) (w : Requester) : (s.requestPulse .lift .engage w).isq = s.isq := by
  unfold State.requestPulse
  repeat' split
  all_goals rfl

/-- The images are the Ring Controller's. -/
theorem image_congr {s t : State} (h : s.rgc = t.rgc) (p : Nat) : s.image p = t.image p := by
  simp only [State.image, State.node, h]

/-! ## Feed faults and the load hold (R149) -/

@[simp] theorem report_fdu (s : State) (r : Report) : (s.report r).fdu = s.fdu := rfl

@[simp] theorem setHold_fdu (s : State) (why : LineReason) : (s.setHold why).fdu = s.fdu := by
  unfold State.setHold State.goHeld State.reportLine
  repeat' split
  all_goals rfl

@[simp] theorem loadCheck_fdu (s : State) : s.loadCheck.fdu = s.fdu := by
  unfold State.loadCheck
  repeat' split
  all_goals (dsimp only; repeat' split)
  all_goals rfl

/-- The position-0 state and the load hold take the values given, whatever is reported. -/
theorem setLoad_fdu (l : LoadState) (hold : Bool) (s : State) :
    (s.setLoad l hold).fdu = { s.fdu with state := l, loadHold := hold, loadWait := s.fdu.waitTimer l } := by
  unfold State.setLoad
  dsimp only
  split
  · split <;> rfl
  · rw [loadCheck_fdu]; rfl

/-- A feed that fails leaves the state given and the load hold set, whatever the hold was. -/
theorem failFeedTo_hold (l : LoadState) (stage : FeedStage) (why : FeedReason) (s : State) :
    (s.failFeedTo l stage why).fdu.state = l ∧ (s.failFeedTo l stage why).fdu.loadHold = true := by
  simp only [State.failFeedTo, setHold_fdu, report_fdu, setLoad_fdu, and_self]

/-- A PRESENT drop that fails the feed in hand leaves position 0 EMPTY with the load hold set (log 77). -/
theorem loadPresentDrop_lost (s : State) (h : s.fdu.state = .seating ∨ s.fdu.state = .reading) :
    s.loadPresentDrop.fdu.state = .empty ∧ s.loadPresentDrop.fdu.loadHold = true := by
  obtain h | h := h <;> simp only [State.loadPresentDrop, h] <;> exact failFeedTo_hold _ _ _ _

/-- A PRESENT drop in any other state leaves the load hold clear. -/
theorem loadPresentDrop_clears (s : State) (h : s.fdu.state ≠ .seating) (k : s.fdu.state ≠ .reading) :
    s.loadPresentDrop.fdu.loadHold = false := by
  unfold State.loadPresentDrop
  cases hs : s.fdu.state <;> simp_all [State.clearLoadHold, State.toLoad, setLoad_fdu, State.clearLoad, State.setSlot]

/-! ## Phase commands and the lift (R99, R102 to R104) -/

/-- The end of the phase's valve work leaves no command, no movement and no stagger wait, and touches no other block
but the report queue. -/
theorem endPhaseWork_leaves (s : State) :
    s.endPhaseWork.sct.command = none ∧ s.endPhaseWork.sct.movement = none ∧ s.endPhaseWork.sct.clampWait = none ∧
      s.endPhaseWork.prg = s.prg ∧ s.endPhaseWork.rtb = s.rtb ∧ s.endPhaseWork.isq = s.isq ∧
      s.endPhaseWork.stu = s.stu ∧ s.endPhaseWork.mgn = s.mgn ∧ s.endPhaseWork.cam = s.cam ∧
      s.endPhaseWork.fdu = s.fdu ∧ s.endPhaseWork.rgc = s.rgc := by
  unfold State.endPhaseWork State.endMovement State.judgeLiftAtRest State.setLift State.closeCommand
    State.modAllChannels State.modSct
  dsimp only
  repeat' split
  all_goals simp_all [State.report]

/-- A phase command is met when every position of its set meets its end condition. -/
theorem commandMet_isSome (t : State) (ph : Phase) (l : List Nat) (n : Nat)
    (h : t.sct.command = some ⟨ph, l, n⟩) : t.commandMet.isSome = l.all (t.endsWith ph) := by
  unfold State.commandMet
  rw [h]
  dsimp only
  split <;> simp_all

/-- The judgement of the switches in an open movement. -/
theorem judgeLift_open (x : State) (m : Movement) (r : Reading) (h : x.sct.movement = some m)
    (hr : x.liftReading = r) :
    x.judgeLift =
      if r = m.move.target then
        ((x.setLift (liftMoving m.move r)).modSct fun y => { y with movement := none }, some m.move)
      else (x.setLift (liftMoving m.move r), none) := by
  simp only [State.judgeLift, h, hr]

/-- A known lift state is set with no report. -/
theorem setLift_known (x : State) (l : LiftState) (h : l ≠ .unknown) :
    x.setLift l = { x with sct := { x.sct with liftState := l } } := by
  simp [State.setLift, h, State.modSct]

/-- Entry to UNKNOWN queues LIFT UNKNOWN. -/
theorem setLift_unknown (x : State) (h : x.sct.liftState ≠ .unknown) :
    x.setLift .unknown =
      State.report
        (.liftUnknown x.lineImage.liftUp x.lineImage.liftDown (x.sct.movement.map Movement.move))
        { x with sct := { x.sct with liftState := .unknown } } := by
  simp [State.setLift, h, State.modSct]

/-- Clearing the clamp watches leaves the occupied stations. -/
theorem occupiedStations_clearClampWatches (s : State) :
    s.clearClampWatches.occupiedStations = s.occupiedStations := by
  have h : ∀ k, (s.clearClampWatches.unit k).config = (s.unit k).config := by
    intro k
    simp only [State.clearClampWatches, State.modStu, State.unit, List.getElem?_map]
    cases s.stu[k - 1]? <;> rfl
  unfold State.occupiedStations
  congr 1
  funext k
  simp only [State.isOccupied, State.isClampStation, h]
  rfl

/-! ## The plan and the banks (R118, R133) -/

/-- A plan has no tick exactly for no distance. -/
theorem makePlan_total_eq_zero (m : MotionSettings) (d : Direction) (o t : Int) (dist : Nat) :
    (makePlan m d o t dist).total = 0 ↔ dist = 0 := by
  unfold makePlan
  by_cases h : dist = 0
  · simp [h]
  · simp only [h, or_false, if_false, iff_false]
    split
    · simp
    · dsimp only
      by_cases hn : rampTicks m dist = 0
      · simp only [hn]; simp; omega
      · generalize (if dist - m.acceleration * (rampTicks m dist * rampTicks m dist) -
          (dist - m.acceleration * (rampTicks m dist * rampTicks m dist)) / (rampTicks m dist * m.acceleration) *
            (rampTicks m dist * m.acceleration) = 0 then 0 else 1) = z
        generalize (dist - m.acceleration * (rampTicks m dist * rampTicks m dist)) /
          (rampTicks m dist * m.acceleration) = y
        omega

/-- The swap of the banks and a change of the register that keeps the index count can be exchanged. -/
theorem swapBanks_modPrg (x : State) (f : Prg → Prg) (hf : (f x.prg).indexCount = x.prg.indexCount) :
    x.swapBanks.modPrg f = (x.modPrg f).swapBanks := by
  have h0 : (x.modPrg f).cam = x.cam := rfl
  cases h : x.cam.bankIn .armed with
  | none => simp only [State.swapBanks, h0, h]
  | some n =>
    cases h' : x.cam.bankIn .active with
    | none =>
      simp only [State.swapBanks, h0, h, h']
      cases n <;> simp [State.modPrg, State.modBank, State.modCam, State.report, State.modClu, hf]
    | some o =>
      simp only [State.swapBanks, h0, h, h']
      cases n <;> cases o <;> simp [State.modPrg, State.modBank, State.modCam, State.report, State.modClu, hf]

/-! ## One unit -/

/-- A change of a unit is what it does to that unit. -/
theorem modUnit_congr (s : State) (k : Nat) (f g : StationUnit → StationUnit) (h : f (s.unit k) = g (s.unit k)) :
    s.modUnit k f = s.modUnit k g := by
  cases k with
  | zero => rfl
  | succ j =>
    simp only [State.modUnit, State.modStu]
    congr 1
    apply List.ext_getElem?
    intro i
    rw [List.getElem?_modify, List.getElem?_modify]
    by_cases hj : j = i
    · subst hj
      simp only [if_true]
      simp only [State.unit, Nat.add_sub_cancel] at h
      cases hx : s.stu[j]? with
      | none => rfl
      | some u => rw [hx] at h; simp at h ⊢; exact h
    · simp [hj]

/-- A change that leaves the unit leaves the state. -/
theorem modUnit_id (s : State) (k : Nat) (f : StationUnit → StationUnit) (h : f (s.unit k) = s.unit k) :
    s.modUnit k f = s := by
  rw [modUnit_congr s k f id h]
  cases k with
  | zero => rfl
  | succ j => simp [State.modUnit, State.modStu]

/-- The changed unit of a station that has one. -/
theorem unit_modUnit (s : State) (k : Nat) (f : StationUnit → StationUnit) (h1 : 1 ≤ k)
    (h : s.unit k ≠ StationUnit.initial) : (s.modUnit k f).unit k = f (s.unit k) := by
  obtain ⟨j, rfl⟩ : ∃ j, k = j + 1 := ⟨k - 1, by omega⟩
  simp only [State.unit, State.modUnit, State.modStu, Nat.add_sub_cancel, List.getElem?_modify] at *
  cases hx : s.stu[j]? with
  | none => rw [hx] at h; simp at h
  | some u => simp

/-- Two changes of one unit are one. -/
theorem modUnit_modUnit (s : State) (k : Nat) (f g : StationUnit → StationUnit) :
    (s.modUnit k f).modUnit k g = s.modUnit k (g ∘ f) := by
  cases k with
  | zero => rfl
  | succ j => simp [State.modUnit, State.modStu, List.modify_modify_eq]

/-- A change of a unit leaves the images. -/
theorem image_modUnit (s : State) (k p : Nat) (f : StationUnit → StationUnit) : (s.modUnit k f).image p = s.image p := by
  apply image_congr
  unfold State.modUnit
  split <;> rfl

/-- An append leaves the units, the images and the time base. -/
theorem append_leaves (s : State) (k program : Nat) (r : LogResult) :
    (s.append k program r).1.stu = s.stu ∧ (s.append k program r).1.rgc = s.rgc ∧
      (s.append k program r).1.timeBase = s.timeBase := by
  unfold State.append
  (repeat' split) <;> (try dsimp only) <;> (repeat' split) <;> exact ⟨rfl, rfl, rfl⟩

/-! ### What RESTART does to a unit in every state (R93), field by field -/

@[simp] theorem quiesce_config (u : StationUnit) : u.quiesce.config = u.config := rfl
@[simp] theorem quiesce_state (u : StationUnit) : u.quiesce.state = u.state := rfl
@[simp] theorem quiesce_inService (u : StationUnit) : u.quiesce.inService = u.inService := rfl
@[simp] theorem quiesce_clampWatch (u : StationUnit) : u.quiesce.clampWatch = u.clampWatch := rfl
@[simp] theorem quiesce_operation (u : StationUnit) : u.quiesce.operation = u.operation := rfl
@[simp] theorem quiesce_fault (u : StationUnit) :
    u.quiesce.fault = u.fault.map fun f => { f with reclamp := false } := rfl
@[simp] theorem quiesce_start (u : StationUnit) : u.quiesce.start = false := rfl
@[simp] theorem quiesce_restartWait (u : StationUnit) : u.quiesce.restartWait = false := rfl
@[simp] theorem quiesce_stage1 (u : StationUnit) : u.quiesce.stage1 = none := rfl
@[simp] theorem quiesce_stage2 (u : StationUnit) : u.quiesce.stage2 = none := rfl

/-! ## Lists of positions and phases as bytes (R170) -/

theorem flatMap_u8 (l : List Nat) : l.flatMap u8 = l.map (BitVec.ofNat 8) := by
  induction l with
  | nil => rfl
  | cons a l ih => rw [List.flatMap_cons, ih]; rfl

theorem flatMap_phaseCode (l : List Phase) : (l.flatMap fun p => u8 p.code) = l.map fun p => BitVec.ofNat 8 p.code := by
  induction l with
  | nil => rfl
  | cons a l ih => rw [List.flatMap_cons, ih]; rfl

end Sys2Proof.Machine
end

