-- ==== Sys2Proof/Laws/PerInstr.lean ====
section
/-! SUPPORT. The family `Sendable`, one lemma per command: the payload of the request a well-formed command stands for fits
a frame (R167, R170). -/

namespace Sys2Proof.Laws.Sendable

open Sys2Proof Sys2Proof.Machine

/-- The request a command stands for; none for a command that is no request with a code of Table 10-4. -/
def request : Instr → Option Request
  | .ident _ => some .ident
  | .queryStatus _ => some .queryStatus
  | .queryStation _ station => some (.queryStation station)
  | .queryPallet _ id => some (.queryPallet id)
  | .queryMap _ => some .queryMap
  | .queryQueue _ => some .queryQueue
  | .setLine _ fields => some (.setLine fields)
  | .setStation _ fields => some (.setStation fields)
  | .setRoute _ route programs => some (.setRoute route programs)
  | .camWrite _ bank start points => some (.camWrite bank start points)
  | .camArm _ bank => some (.camArm bank)
  | .camDisarm _ bank => some (.camDisarm bank)
  | .palletEnrolTail _ id => some (.palletEnrol 0 id)
  | .palletEnrolLoad _ id => some (.palletEnrol 1 id)
  | .palletPlace _ id position block => some (.palletPlace id position block)
  | .palletUnplace _ position => some (.palletUnplace position)
  | .palletAdmit _ id resetCount => some (.palletAdmit id resetCount)
  | .palletWithdraw _ id => some (.palletWithdraw id)
  | .palletRetire _ id => some (.palletRetire id)
  | .blockAssign _ serial variant => some (.blockAssign serial variant)
  | .blockEmpty _ => some .blockEmpty
  | .dispose _ id disposition => some (.dispose id disposition)
  | .stationOut _ station => some (.stationOut station)
  | .stationIn _ station => some (.stationIn station)
  | .faultClearRetry _ station => some (.faultClear station 0)
  | .faultClearAbandon _ station => some (.faultClear station 1)
  | .run _ => some .run
  | .hold _ => some .hold
  | .stop _ => some .stop
  | .recoverForward _ => some (.recover 0)
  | .recoverBackward _ => some (.recover 1)
  | .trial _ bank => some (.trial bank)
  | .reportMask _ event trace => some (.reportMask event trace)
  | .echo _ payload => some (.echo payload)
  | .restart _ => some .restart
  | .unknownRequest _ _ _ => none
  | .frameReceived _ => none
  | .frameGap => none
  | .framingError => none
  | .linkBreak => none
  | .breakEnd => none
  | .transmitDone => none
  | .powerOnReset _ _ => none
  | .rstAssert => none
  | .driveFeedbackReceived _ => none
  | .motionTick => none
  | .settleTimeout => none
  | .ringScan => none
  | .ringFrameReceived _ => none
  | .stage1Expiry _ => none
  | .stage2Expiry _ => none
  | .indexStart => none
  | .phaseTimeout => none
  | .liftTimeout => none
  | .clampStagger => none
  | .pulseEnd _ => none
  | .positionRequestTimeout _ => none
  | .topup => none
  | .topupStagger => none
  | .waiting => none
  | .feedStart => none
  | .feedTimeout => none
  | .readTimeout => none
  | .loadWaitExpired => none
  | .frameAbandonLength _ => none

/-- A well-formed command's request fits a frame. -/
def Statement (i : Instr) : Prop :=
  i.wellFormed = true → ∀ q, request i = some q → q.payload.length ≤ Config.maxPayload

/-! ## Lengths of fields -/

theorem length_flag (b : Bool) : (flag b).length = 1 := by cases b <;> rfl

theorem length_opt_le {α : Type} {f : α → List Byte} {n : Nat} (h : ∀ a, (f a).length ≤ n) (o : Option α) :
    (opt f o).length ≤ 1 + n := by
  cases o with
  | none => simp [opt]
  | some a => have := h a; simp only [opt, List.length_cons]; omega

theorem length_listOf {α : Type} (f : α → List Byte) (l : List α) :
    (listOf f l).length = 1 + (l.map fun a => (f a).length).sum := by
  simp [listOf, u8, List.length_flatMap]; omega

theorem length_listOf_put8 (l : List Byte) : (listOf put8 l).length = 1 + l.length := by
  rw [length_listOf]; induction l <;> simp_all [put8]; omega

theorem length_encodePoint (p : PointFields) : (encodePoint p).length = p.bytes := by
  obtain ⟨pos, stroke, action, k, level⟩ := p
  cases k <;> cases level <;> simp [encodePoint, PointFields.bytes, optionBytes, put32, put8, opt, length_flag]

theorem length_opt_put8 (o : Option Byte) : (opt put8 o).length ≤ 2 := by cases o <;> simp [opt, put8]

theorem length_opt_put16 (o : Option (BitVec 16)) : (opt put16 o).length ≤ 3 := by cases o <;> simp [opt, put16]

theorem length_opt_put32 (o : Option (BitVec 32)) : (opt put32 o).length ≤ 5 := by cases o <;> simp [opt, put32]

theorem length_append_le {a b : List Byte} {m n : Nat} (ha : a.length ≤ m) (hb : b.length ≤ n) :
    (a ++ b).length ≤ m + n := by
  rw [List.length_append]; omega

theorem length_encodeLine (f : LineFields) : (encodeLine f).length ≤ Config.maxPayload := by
  have h1 := length_opt_put8 f.n
  have h2 := length_append_le h1 (length_opt_put8 f.c)
  have h3 := length_append_le h2 (length_opt_put32 f.inspectionLimit)
  have h4 := length_append_le h3 (length_opt_put32 f.stroke)
  have h5 := length_append_le h4 (length_opt_put16 f.velocity)
  have h6 := length_append_le h5 (length_opt_put8 f.acceleration)
  have h7 := length_append_le h6 (length_opt_put8 f.quickStop)
  have h8 := length_append_le h7 (length_opt_put16 f.errorLimit)
  have h9 := length_append_le h8 (length_opt_put8 f.errorPersistence)
  have h10 := length_append_le h9 (length_opt_put16 f.band)
  have h11 := length_append_le h10 (length_opt_put16 f.settleTimeout)
  have h12 := length_append_le h11 (length_opt_put16 f.pulseLength)
  have h13 := length_append_le h12 (length_opt_put16 f.clampStagger)
  have h14 := length_append_le h13 (length_opt_put16 f.releaseTimeout)
  have h15 := length_append_le h14 (length_opt_put16 f.locateTimeout)
  have h16 := length_append_le h15 (length_opt_put16 f.clampTimeout)
  have h17 := length_append_le h16 (length_opt_put16 f.liftTimeout)
  have h18 := length_append_le h17 (length_opt_put16 f.topUpInterval)
  have h19 := length_append_le h18 (length_opt_put16 f.waitDelay)
  have h20 := length_append_le h19 (length_opt_put8 f.feedTimeout)
  have h21 := length_append_le h20 (length_opt_put16 f.readTimeout)
  have h22 := length_append_le h21 (length_opt_put16 f.loadWaitTimeout)
  have h23 := length_append_le h22 (length_opt_put8 f.loadWaitPolicy)
  exact Nat.le_trans h23 (by decide)

theorem length_encodeStation (f : StationFields) : (encodeStation f).length ≤ Config.maxPayload := by
  have := length_opt_put8 f.group
  simp only [encodeStation, List.length_append, List.length_cons, List.length_nil, put16, length_flag, Config.maxPayload]
  omega

theorem length_encodeBlock (x : BlockFields) : (encodeBlock x).length + 1 = blockBytes (some x) := by
  simp only [encodeBlock, List.length_append, length_listOf_put8, List.length_cons, List.length_nil, blockBytes]
  omega

/-! ## One lemma per command -/

theorem ident (tag : Byte) : Statement (.ident tag) := by
  intro _ q h; cases h; simp [Request.payload, Config.maxPayload]

theorem queryStatus (tag : Byte) : Statement (.queryStatus tag) := by
  intro _ q h; cases h; simp [Request.payload, Config.maxPayload]

theorem queryStation (tag station : Byte) : Statement (.queryStation tag station) := by
  intro _ q h; cases h; simp [Request.payload, Config.maxPayload]

theorem queryPallet (tag id : Byte) : Statement (.queryPallet tag id) := by
  intro _ q h; cases h; simp [Request.payload, Config.maxPayload]

theorem queryMap (tag : Byte) : Statement (.queryMap tag) := by
  intro _ q h; cases h; simp [Request.payload, Config.maxPayload]

theorem queryQueue (tag : Byte) : Statement (.queryQueue tag) := by
  intro _ q h; cases h; simp [Request.payload, Config.maxPayload]

theorem setLine (tag : Byte) (fields : LineFields) : Statement (.setLine tag fields) := by
  intro _ q h; cases h; exact length_encodeLine fields

theorem setStation (tag : Byte) (fields : StationFields) : Statement (.setStation tag fields) := by
  intro _ q h; cases h; exact length_encodeStation fields

theorem setRoute (tag route : Byte) (programs : List Byte) : Statement (.setRoute tag route programs) := by
  intro hw q h
  cases h
  simp only [Instr.wellFormed, payloadFits, decide_eq_true_eq] at hw
  simp only [Request.payload, List.length_cons, length_listOf_put8]; omega

theorem camWrite (tag bank start : Byte) (points : List PointFields) : Statement (.camWrite tag bank start points) := by
  intro hw q h
  cases h
  simp only [Instr.wellFormed, payloadFits, decide_eq_true_eq] at hw
  simp only [Request.payload, List.length_append, List.length_cons, List.length_nil, length_listOf, length_encodePoint]
  exact (by omega : 2 + (1 + (points.map PointFields.bytes).sum) ≤ Config.maxPayload)

theorem camArm (tag bank : Byte) : Statement (.camArm tag bank) := by
  intro _ q h; cases h; simp [Request.payload, Config.maxPayload]

theorem camDisarm (tag bank : Byte) : Statement (.camDisarm tag bank) := by
  intro _ q h; cases h; simp [Request.payload, Config.maxPayload]

theorem palletEnrolTail (tag id : Byte) : Statement (.palletEnrolTail tag id) := by
  intro _ q h; cases h; simp [Request.payload, Config.maxPayload]

theorem palletEnrolLoad (tag id : Byte) : Statement (.palletEnrolLoad tag id) := by
  intro _ q h; cases h; simp [Request.payload, Config.maxPayload]

theorem palletPlace (tag id position : Byte) (block : Option BlockFields) : Statement (.palletPlace tag id position block) := by
  intro hw q h
  cases h
  simp only [Instr.wellFormed, payloadFits, decide_eq_true_eq] at hw
  cases block with
  | none => simp [Request.payload, opt, Config.maxPayload]
  | some x =>
    have := length_encodeBlock x
    simp only [Request.payload, List.length_append, List.length_cons, List.length_nil, opt]; omega

theorem palletUnplace (tag position : Byte) : Statement (.palletUnplace tag position) := by
  intro _ q h; cases h; simp [Request.payload, Config.maxPayload]

theorem palletAdmit (tag id : Byte) (resetCount : Bool) : Statement (.palletAdmit tag id resetCount) := by
  intro _ q h; cases h; simp [Request.payload, Config.maxPayload, length_flag]

theorem palletWithdraw (tag id : Byte) : Statement (.palletWithdraw tag id) := by
  intro _ q h; cases h; simp [Request.payload, Config.maxPayload]

theorem palletRetire (tag id : Byte) : Statement (.palletRetire tag id) := by
  intro _ q h; cases h; simp [Request.payload, Config.maxPayload]

theorem blockAssign (tag : Byte) (serial : List Byte) (variant : Byte) : Statement (.blockAssign tag serial variant) := by
  intro hw q h
  cases h
  simp only [Instr.wellFormed, payloadFits, decide_eq_true_eq] at hw
  simp only [Request.payload, List.length_append, List.length_cons, List.length_nil, length_listOf_put8]; omega

theorem blockEmpty (tag : Byte) : Statement (.blockEmpty tag) := by
  intro _ q h; cases h; simp [Request.payload, Config.maxPayload]

theorem dispose (tag id disposition : Byte) : Statement (.dispose tag id disposition) := by
  intro _ q h; cases h; simp [Request.payload, Config.maxPayload]

theorem stationOut (tag station : Byte) : Statement (.stationOut tag station) := by
  intro _ q h; cases h; simp [Request.payload, Config.maxPayload]

theorem stationIn (tag station : Byte) : Statement (.stationIn tag station) := by
  intro _ q h; cases h; simp [Request.payload, Config.maxPayload]

theorem faultClearRetry (tag station : Byte) : Statement (.faultClearRetry tag station) := by
  intro _ q h; cases h; simp [Request.payload, Config.maxPayload]

theorem faultClearAbandon (tag station : Byte) : Statement (.faultClearAbandon tag station) := by
  intro _ q h; cases h; simp [Request.payload, Config.maxPayload]

theorem run (tag : Byte) : Statement (.run tag) := by
  intro _ q h; cases h; simp [Request.payload, Config.maxPayload]

theorem hold (tag : Byte) : Statement (.hold tag) := by
  intro _ q h; cases h; simp [Request.payload, Config.maxPayload]

theorem stop (tag : Byte) : Statement (.stop tag) := by
  intro _ q h; cases h; simp [Request.payload, Config.maxPayload]

theorem recoverForward (tag : Byte) : Statement (.recoverForward tag) := by
  intro _ q h; cases h; simp [Request.payload, Config.maxPayload]

theorem recoverBackward (tag : Byte) : Statement (.recoverBackward tag) := by
  intro _ q h; cases h; simp [Request.payload, Config.maxPayload]

theorem trial (tag bank : Byte) : Statement (.trial tag bank) := by
  intro _ q h; cases h; simp [Request.payload, Config.maxPayload]

theorem reportMask (tag : Byte) (event trace : Bool) : Statement (.reportMask tag event trace) := by
  intro _ q h; cases h; simp [Request.payload, Config.maxPayload, length_flag]

theorem echo (tag : Byte) (payload : List Byte) : Statement (.echo tag payload) := by
  intro hw q h
  cases h
  simpa [Instr.wellFormed, payloadFits, Request.payload] using hw

theorem restart (tag : Byte) : Statement (.restart tag) := by
  intro _ q h; cases h; simp [Request.payload, Config.maxPayload]

theorem unknownRequest (tag kind : Byte) (payload : List Byte) : Statement (.unknownRequest tag kind payload) := by
  intro _ q h; cases h

theorem frameReceived (bytes : List Byte) : Statement (.frameReceived bytes) := by
  intro _ q h; cases h

theorem frameGap : Statement .frameGap := by
  intro _ q h; cases h

theorem framingError : Statement .framingError := by
  intro _ q h; cases h

theorem linkBreak : Statement .linkBreak := by
  intro _ q h; cases h

theorem breakEnd : Statement .breakEnd := by
  intro _ q h; cases h

theorem transmitDone : Statement .transmitDone := by
  intro _ q h; cases h

theorem powerOnReset (rate1 rate0 : Bool) : Statement (.powerOnReset rate1 rate0) := by
  intro _ q h; cases h

theorem rstAssert : Statement .rstAssert := by
  intro _ q h; cases h

theorem driveFeedbackReceived (bytes : List Byte) : Statement (.driveFeedbackReceived bytes) := by
  intro _ q h; cases h

theorem motionTick : Statement .motionTick := by
  intro _ q h; cases h

theorem settleTimeout : Statement .settleTimeout := by
  intro _ q h; cases h

theorem ringScan : Statement .ringScan := by
  intro _ q h; cases h

theorem ringFrameReceived (bytes : List Byte) : Statement (.ringFrameReceived bytes) := by
  intro _ q h; cases h

theorem stage1Expiry (station : Nat) : Statement (.stage1Expiry station) := by
  intro _ q h; cases h

theorem stage2Expiry (station : Nat) : Statement (.stage2Expiry station) := by
  intro _ q h; cases h

theorem indexStart : Statement .indexStart := by
  intro _ q h; cases h

theorem phaseTimeout : Statement .phaseTimeout := by
  intro _ q h; cases h

theorem liftTimeout : Statement .liftTimeout := by
  intro _ q h; cases h

theorem clampStagger : Statement .clampStagger := by
  intro _ q h; cases h

theorem pulseEnd (channel : ChannelId) : Statement (.pulseEnd channel) := by
  intro _ q h; cases h

theorem positionRequestTimeout (request : RequestId) : Statement (.positionRequestTimeout request) := by
  intro _ q h; cases h

theorem topup : Statement .topup := by
  intro _ q h; cases h

theorem topupStagger : Statement .topupStagger := by
  intro _ q h; cases h

theorem waiting : Statement .waiting := by
  intro _ q h; cases h

theorem feedStart : Statement .feedStart := by
  intro _ q h; cases h

theorem feedTimeout : Statement .feedTimeout := by
  intro _ q h; cases h

theorem readTimeout : Statement .readTimeout := by
  intro _ q h; cases h

theorem loadWaitExpired : Statement .loadWaitExpired := by
  intro _ q h; cases h

theorem frameAbandonLength (byte : Byte) : Statement (.frameAbandonLength byte) := by
  intro _ q h; cases h

end Sys2Proof.Laws.Sendable
end

