-- ==== Sys2Proof/Laws/Steady.lean ====
section
/-! SUPPORT. What the channels of the Seat Controller and the Feed Unit short of resolution leave: `Steady r s` says that
the state `s`, reached from `r`, has every other block as `r` had it, the register but for the load disagreement and the
unload watch, and the line but for the seat-clear marks. There is one lemma for each shared operation; simp chains them. -/

namespace Sys2Proof.Machine

/-- What the work of the Seat Controller's channels and of the Feed Unit short of resolution leaves. -/
structure Steady (r s : State) : Prop where
  prg : { s.prg with watch := .idle, disagreement := none } = { r.prg with watch := .idle, disagreement := none }
  isq : { s.isq with released := false, withdrawn := false, lifted := false } =
    { r.isq with released := false, withdrawn := false, lifted := false }
  rtb : s.rtb = r.rtb
  stu : s.stu = r.stu
  mgn : s.mgn = r.mgn
  cam : s.cam = r.cam
  rgc : s.rgc = r.rgc
  locators : s.sct.locators.length = r.sct.locators.length
  clamps : s.sct.clamps.length = r.sct.clamps.length

@[simp] theorem Steady.refl (s : State) : Steady s s := ⟨rfl, rfl, rfl, rfl, rfl, rfl, rfl, rfl, rfl⟩

theorem Steady.trans {r s t : State} (h : Steady r s) (k : Steady s t) : Steady r t :=
  ⟨k.1.trans h.1, k.2.trans h.2, k.3.trans h.3, k.4.trans h.4, k.5.trans h.5, k.6.trans h.6, k.7.trans h.7,
    k.8.trans h.8, k.9.trans h.9⟩

variable {r s : State}

@[simp] theorem steady_ite {r a b : State} {c : Prop} [Decidable c] (h : Steady r a) (k : Steady r b) :
    Steady r (if c then a else b) := by split <;> assumption

@[simp] theorem steady_foldl {α : Type} {r s : State} (f : State → α → State) (l : List α)
    (hf : ∀ t a, Steady r t → Steady r (f t a)) (h : Steady r s) : Steady r (l.foldl f s) := by
  induction l generalizing s with
  | nil => exact h
  | cons a l ih => exact ih (hf s a h)

@[simp] theorem steady_report (x : Report) (h : Steady r s) : Steady r (s.report x) :=
  h.trans ⟨rfl, rfl, rfl, rfl, rfl, rfl, rfl, rfl, rfl⟩

@[simp] theorem steady_modFdu (f : Fdu → Fdu) (h : Steady r s) : Steady r (s.modFdu f) :=
  h.trans ⟨rfl, rfl, rfl, rfl, rfl, rfl, rfl, rfl, rfl⟩

@[simp] theorem steady_modClu (f : Clu → Clu) (h : Steady r s) : Steady r (s.modClu f) :=
  h.trans ⟨rfl, rfl, rfl, rfl, rfl, rfl, rfl, rfl, rfl⟩

@[simp] theorem steady_modSct (f : Sct → Sct) (h : Steady r s) (h1 : (f s.sct).locators.length = s.sct.locators.length)
    (h2 : (f s.sct).clamps.length = s.sct.clamps.length) : Steady r (s.modSct f) :=
  h.trans ⟨rfl, rfl, rfl, rfl, rfl, rfl, rfl, h1, h2⟩

@[simp] theorem steady_modPrg (f : Prg → Prg) (h : Steady r s)
    (h1 : { f s.prg with watch := .idle, disagreement := none } = { s.prg with watch := .idle, disagreement := none }) :
    Steady r (s.modPrg f) :=
  h.trans ⟨h1, rfl, rfl, rfl, rfl, rfl, rfl, rfl, rfl⟩

@[simp] theorem steady_modIsq (f : Isq → Isq) (h : Steady r s)
    (h1 : { f s.isq with released := false, withdrawn := false, lifted := false } =
      { s.isq with released := false, withdrawn := false, lifted := false }) : Steady r (s.modIsq f) :=
  h.trans ⟨rfl, h1, rfl, rfl, rfl, rfl, rfl, rfl, rfl⟩

@[simp] theorem steady_modChannel (c : ChannelId) (f : Channel → Channel) (h : Steady r s) :
    Steady r (s.modChannel c f) := by
  unfold State.modChannel
  split <;> simp (maxDischargeDepth := 40) [h]

@[simp] theorem steady_clearMark (c : ChannelId) (side : Side) (h : Steady r s) :
    Steady r (State.clearMark c side s) := by
  unfold State.clearMark
  split <;> simp (maxDischargeDepth := 40) [h]

@[simp] theorem steady_startPulse (c : ChannelId) (side : Side) (q : List Requester) (h : Steady r s) :
    Steady r (State.startPulse c side q s) := by
  simp [State.startPulse, h]

@[simp] theorem steady_requestPulse (c : ChannelId) (side : Side) (q : Requester) (h : Steady r s) :
    Steady r (State.requestPulse c side q s) := by
  unfold State.requestPulse
  (repeat' split) <;> simp (maxDischargeDepth := 40) [h]

@[simp] theorem steady_requestPulses (cs : List ChannelId) (side : Side) (q : Requester) (h : Steady r s) :
    Steady r (State.requestPulses cs side q s) := by
  unfold State.requestPulses; simp_all

@[simp] theorem steady_judgeWatch (h : Steady r s) : Steady r s.judgeWatch := by
  simp only [State.judgeWatch]; split <;> simp (maxDischargeDepth := 40) [h]

@[simp] theorem steady_loadCheck (h : Steady r s) : Steady r s.loadCheck := by
  simp only [State.loadCheck]; (repeat' split) <;> simp (maxDischargeDepth := 40) [h]

@[simp] theorem steady_setLoad (l : LoadState) (b : Bool) (h : Steady r s) : Steady r (s.setLoad l b) := by
  simp only [State.setLoad]; (repeat' split) <;> simp (maxDischargeDepth := 40) [h]

@[simp] theorem steady_toLoad (l : LoadState) (h : Steady r s) : Steady r (s.toLoad l) := by
  simp (maxDischargeDepth := 40) [State.toLoad, h]

@[simp] theorem steady_policyChange (p : LoadPolicy) (h : Steady r s) : Steady r (s.policyChange p) := by
  unfold State.policyChange; split <;> simp [h, State.declareEmpty]

@[simp] theorem steady_releaseEmptyFixtures (h : Steady r s) : Steady r s.releaseEmptyFixtures := by
  simp (maxDischargeDepth := 40) [State.releaseEmptyFixtures, h]

@[simp] theorem steady_topUpReload (h : Steady r s) : Steady r s.topUpReload := by
  unfold State.topUpReload; split <;> simp (maxDischargeDepth := 40) [h]

@[simp] theorem steady_closeRequest (id : RequestId) (h : Steady r s) : Steady r (s.closeRequest id) := by
  simp (maxDischargeDepth := 40) [State.closeRequest, h]

@[simp] theorem steady_openRequest (id : RequestId) (h : Steady r s) : Steady r (s.openRequest id) := by
  simp (maxDischargeDepth := 40) [State.openRequest, h]

@[simp] theorem steady_enterReading (h : Steady r s) : Steady r s.enterReading := by
  simp (maxDischargeDepth := 40) [State.enterReading, h]

@[simp] theorem steady_enterSeating (h : Steady r s) : Steady r s.enterSeating := by
  simp (maxDischargeDepth := 40) [State.enterSeating, h]

@[simp] theorem steady_openGate (h : Steady r s) : Steady r s.openGate := by
  simp (maxDischargeDepth := 40) [State.openGate, h]

@[simp] theorem steady_enterFeeding (h : Steady r s) : Steady r s.enterFeeding := by
  simp (maxDischargeDepth := 40) [State.enterFeeding, h]

@[simp] theorem steady_startFeed (m : FeedMode) (h : Steady r s) : Steady r (s.startFeed m) := by
  simp only [State.startFeed]; split <;> simp (maxDischargeDepth := 40) [h]

@[simp] theorem steady_judgeFeed (h : Steady r s) : Steady r s.judgeFeed := by
  unfold State.judgeFeed; split <;> simp (maxDischargeDepth := 40) [h]

@[simp] theorem steady_flushOverflow (h : Steady r s) : Steady r s.flushOverflow := by
  unfold State.flushOverflow; (repeat' split) <;> simp (maxDischargeDepth := 40) [h]

@[simp] theorem steady_answered (k t : Byte) (a : Answer) (h : Steady r s) : Steady r (s.answered k t a) := by
  simp (maxDischargeDepth := 40) [State.answered, State.placeReply, h]

/-- The occupied clamp stations of a group stay. -/
theorem Steady.groupStations (h : Steady r s) (g : Group) : s.groupStations g = r.groupStations g := by
  obtain ⟨hp, hi, _, hs, -⟩ := h
  have hm : s.prg.map = r.prg.map := by injection hp
  have hn : s.isq.stations = r.isq.stations := by injection hi
  have hu : ∀ k, s.unit k = r.unit k := fun k => by simp only [State.unit, hs]
  have ho : s.isOccupied = r.isOccupied := by
    funext k
    simp only [State.isOccupied, State.isClampStation, hu, State.palletAt, State.slot, hm, State.n, hn]; rfl
  simp only [State.groupStations, State.occupiedStations, ho, hu, State.stationList, State.n, hn]

end Sys2Proof.Machine
end

