-- ==== Sys2Proof/Tests/Slice0.lean ====
section
/-! SUPPORT. The model's own tests. Expected values come from the worked examples and tables of the manual, named at each
test; then one witness theorem for each statement with hypotheses, clause by clause. -/

namespace Sys2Proof.Tests

open Sys2Proof Sys2Proof.Machine

/-! ## Small states -/

/-- Out of reset, with a frame being sent. -/
def part : State :=
  let s := State.powerOn 0 []
  { s with clu := { s.clu with transmitting := some [] } }

/-- Levels of a node at rest: everything seated, HOME on, the lift down. -/
def restImage (a : Nat) : InputImage :=
  if a = 30 then { InputImage.off with liftDown := true, spurClear := true }
  else { InputImage.off with locIn := true, clamped := true, home := true }

/-- A configured line of two stations in HELD with the bar home. -/
def line : State :=
  { part with
    isq := { part.isq with line := .held, stations := some 2 }
    prg := { part.prg with map := List.replicate 4 .empty }
    sct :=
      { part.sct with
        locators := List.replicate 4 Channel.initial, clamps := List.replicate 2 Channel.initial, liftState := .down }
    mgn := { part.mgn with drive := .ready, missed := 0, lastFeedback := some 0 }
    cam := { part.cam with bankA := { Bank.initial with state := .armed } }
    rgc := { part.rgc with
      nodes := [0, 1, 2, 3, 30].map fun a =>
        { addr := a, state := .answering, image := some (restImage a), missed := 0, scansMissed := 0 } } }

/-- The line in a line state and phase. -/
def lineIn (l : Line) (ph : Option Phase) (s : State) : State := { s with isq := { s.isq with line := l, phase := ph } }

/-- A block of variant 2 with an empty log. -/
def block : Block := { serial := [0x41], variant := 2, disposition := .good, lock := false, log := [] }

/-- A pallet record. -/
def pallet (id cycles : Nat) (x : Option Block) : Pallet := { Pallet.fresh id x with cycles := cycles }

/-- The line with pallets at the given slots. -/
def withPallets (l : List Slot) (records : List Pallet) (s : State) : State :=
  { s with prg := { s.prg with map := l, records := records } }

/-- Station 1 is a MACHINE of group A. -/
def machineOne (s : State) : State :=
  s.modUnit 1 fun u => { u with config := { u.config with kind := .machine, group := some .a } }

/-- Change the image of a node. -/
def setImage (a : Nat) (f : InputImage → InputImage) (s : State) : State :=
  s.modNode a fun nd => { nd with image := nd.image.map f }

/-- The answer in the reply slot. -/
def answer (s : State) : Option Answer := s.clu.replySlot.map Reply.answer

/-- The state after a command. -/
def after (c : Instr) (s : State) : State :=
  match exec c s with
  | .next t => t
  | _ => s

/-! ## Well-formed and ill-formed commands -/

/-- n bytes. -/
def noBytes (n : Nat) : List Byte := List.replicate n 0

theorem length_noBytes (n : Nat) : (noBytes n).length = n := List.length_replicate

theorem test_setRoute_fits :
    (Instr.setRoute 0 0 (noBytes 238)).wellFormed = true ∧ (Instr.setRoute 0 0 (noBytes 239)).wellFormed = false := by
  simp [Instr.wellFormed, payloadFits, Config.maxPayload, length_noBytes]

theorem test_camWrite_fits :
    (Instr.camWrite 0 0 0 (List.replicate 29 ⟨0, 0, 3, none, none⟩)).wellFormed = true ∧
      (Instr.camWrite 0 0 0 (List.replicate 30 ⟨0, 0, 3, none, none⟩)).wellFormed = false := by
  simp [Instr.wellFormed, payloadFits, PointFields.bytes, optionBytes, Config.maxPayload]

theorem test_palletPlace_fits :
    (Instr.palletPlace 0 1 1 (some ⟨noBytes 234, 0, 0⟩)).wellFormed = true ∧
      (Instr.palletPlace 0 1 1 (some ⟨noBytes 235, 0, 0⟩)).wellFormed = false := by
  simp [Instr.wellFormed, payloadFits, blockBytes, Config.maxPayload, length_noBytes]

theorem test_blockAssign_fits :
    (Instr.blockAssign 0 (noBytes 238) 0).wellFormed = true ∧ (Instr.blockAssign 0 (noBytes 239) 0).wellFormed = false := by
  simp [Instr.wellFormed, payloadFits, Config.maxPayload, length_noBytes]

theorem test_echo_fits :
    (Instr.echo 0 (noBytes 240)).wellFormed = true ∧ (Instr.echo 0 (noBytes 241)).wellFormed = false := by
  simp [Instr.wellFormed, payloadFits, Config.maxPayload, length_noBytes]

theorem test_unknownRequest_kind :
    (Instr.unknownRequest 0 0x21 []).wellFormed = true ∧ (Instr.unknownRequest 0 0x3F []).wellFormed = true ∧
      (Instr.unknownRequest 0 0x20 []).wellFormed = false ∧ (Instr.unknownRequest 0 0x40 []).wellFormed = false ∧
      (Instr.unknownRequest 0 0x21 (noBytes 241)).wellFormed = false := by
  simp [Instr.wellFormed, payloadFits, Config.maxPayload, length_noBytes]

theorem test_frameReceived_length :
    (Instr.frameReceived (noBytes 246)).wellFormed = true ∧ (Instr.frameReceived (noBytes 247)).wellFormed = false := by
  simp [Instr.wellFormed, Config.maxPayload, length_noBytes]

theorem test_driveFeedback_length :
    (Instr.driveFeedbackReceived (noBytes 8)).wellFormed = true ∧
      (Instr.driveFeedbackReceived (noBytes 7)).wellFormed = false := by decide

theorem test_ringFrame_length :
    (Instr.ringFrameReceived (noBytes 222)).wellFormed = true ∧
      (Instr.ringFrameReceived (noBytes 223)).wellFormed = false := by
  simp [Instr.wellFormed, Config.maxStations, length_noBytes]

theorem test_stage_station :
    (Instr.stage1Expiry 24).wellFormed = true ∧ (Instr.stage1Expiry 0).wellFormed = false ∧
      (Instr.stage2Expiry 25).wellFormed = false := by decide

theorem test_channel_and_request :
    (Instr.pulseEnd (.locator 25)).wellFormed = true ∧ (Instr.pulseEnd (.locator 26)).wellFormed = false ∧
      (Instr.pulseEnd (.clamp 0)).wellFormed = false ∧ (Instr.pulseEnd .lift).wellFormed = true ∧
      (Instr.positionRequestTimeout (.reclamp 25)).wellFormed = false ∧
      (Instr.positionRequestTimeout .seatLoad).wellFormed = true := by decide

theorem test_frameAbandonLength_byte :
    (Instr.frameAbandonLength 241).wellFormed = true ∧ (Instr.frameAbandonLength 240).wellFormed = false := by decide

/-- No row of the table gives bits. -/
theorem test_decode_none : decodeTableWord 8 0x11 = none := by decide

/-! ## The worked examples -/

/-- V, A and Q of the worked cases of chapter 6. -/
def worked : MotionSettings :=
  { stroke := 650000, velocity := 1200, acceleration := 5, quickStop := 10, errorLimit := 2000, persistence := 5
    band := 50, settle := 200 }

/-- The velocities of a plan. -/
def velocities (d : Nat) : List Nat :=
  (List.range (makePlan worked .advance 0 d d).total).map fun i => (makePlan worked .advance 0 d d).velocityAt 5 (i + 1)

/-- Section 6.8, the full stroke. -/
theorem test_plan_full :
    makePlan worked .advance 0 650000 650000 =
      { direction := .advance, origin := 0, target := 650000, distance := 650000, n := 240, peak := 1200, cruise := 301
        remainder := 800, remainderTick := some 622, total := 781, sent := 0 } := by decide

/-- Section 6.8, the smallest moves, and the remainder that follows the peak of D = 20,157. -/
theorem test_plan_small :
    velocities 0 = [] ∧ velocities 3 = [3] ∧ velocities 5 = [5] ∧ velocities 7 = [5, 2] ∧ velocities 23 = [5, 10, 5, 3] ∧
      ((velocities 20157).drop 61).take 5 = [310, 315, 312, 310, 305] := by decide

/-- Section 9.4 and 6.8: the quick stop from 1,200 after 400,000 sends 1,190 first. -/
theorem test_quick_stop_first_tick :
    let s := lineIn .halted none { line with mgn := { line.mgn with
      settings := worked, motion := .stopping, commanded := 400000, velocity := 1200, lastFeedback := some 400000
      quick := some { direction := .advance, ticks := 0, trial := none, enableOff := false } } }
    (after .motionTick s).mgn.commanded = 401190 := by decide

/-- Section 8.8: the answers 1474, 1881 and 2384. -/
theorem test_codes :
    readCode { InputImage.off with d2 := 1, d1 := 4, d0 := 7, c := 4 } = .id 147 ∧
      readCode { InputImage.off with d2 := 1, d1 := 8, d0 := 8, c := 1 } = .id 188 ∧
      readCode { InputImage.off with d2 := 2, d1 := 3, d0 := 8, c := 4 } = .noread .check := by decide

/-- The line of section 10.8: pallet 50 in the queue, PHASE and another report waiting. -/
def twoRequests : State :=
  { line with
    prg := { line.prg with records := [pallet 50 2 none], queue := [50] }
    clu := { line.clu with reports := [{ report := .phase .lift 3, time := 5, indexCount := 3 }] } }

/-- The same with the replies of both requests due. -/
def twoReplies : State := after (.palletWithdraw 0x2C 50) (after (.queryQueue 0x2B) twoRequests)

/-- Section 10.8: the second request waits, is executed as the slot frees, and the PHASE report waits behind it. -/
theorem test_two_requests_behind_a_report :
    twoReplies.clu.requestQueue = [{ kind := 0x11, tag := 0x2C, payload := [0x32] }] ∧
      (twoReplies.record 50).any Pallet.withdraw = false ∧
      ((after .transmitDone twoReplies).record 50).any Pallet.withdraw = true ∧
      answer (after .transmitDone twoReplies) = some (.ok []) ∧
      (after .transmitDone (after .transmitDone twoReplies)).clu.transmitting.map (·.take 5) =
        some [0xA5, 0x01, 0x51, 0x2C, 0x00] ∧
      (after .transmitDone (after .transmitDone twoReplies)).clu.reports.length = 1 := by decide

/-- Section 1.10, the first shift: pallet 27 is diverted by the inspection limit. -/
def firstIndex : State :=
  let l := { line with isq := { line.isq with stations := some 4 } }
  let l := withPallets ([12, 31, 8, 44, 19, 27].map .pallet)
    [pallet 8 5 (some block), pallet 27 39 none, pallet 50 2 none] l
  { l with prg := { l.prg with
    queue := [3, 50], offline := [61], capacity := 4, inspectionLimit := 40, indexCount := 1206, openIndex := true } }

theorem test_first_shift :
    firstIndex.reserved = 0 ∧
      firstIndex.shift.prg.map = [.empty, .pallet 12, .pallet 31, .pallet 8, .pallet 44, .pallet 19] ∧
      firstIndex.shift.prg.offline = [27, 61] ∧ firstIndex.shift.prg.queue = [3, 50] ∧
      firstIndex.shift.prg.indexCount = 1207 ∧ (firstIndex.shift.record 27).map Pallet.cycles = some 40 := by decide

/-- Section 2.8: FAIL makes GOOD REJECT, TIMEDOUT makes it SUSPECT, and the final gauge's PASS locks. -/
theorem test_append_results :
    let s := withPallets [.empty, .pallet 31, .empty, .empty] [pallet 31 1 (some block)] line
    let g := s.modUnit 1 fun u => { u with config := { u.config with kind := .gauge, finalGauge := true } }
    ((s.append 1 7 .fail).1.blockAt 1).map Block.disposition = some .reject ∧
      ((s.append 1 21 .timedOut).1.blockAt 1).map Block.disposition = some .suspect ∧
      ((s.append 1 9 .skipped).1.blockAt 1).map Block.lock = some false ∧
      ((g.append 1 9 .pass).1.blockAt 1) =
        some { block with lock := true, log := [{ station := 1, program := 9, result := .pass }] } := by decide

/-- Section 7.6: the swap's bank fires 1 and 2 in one hand-over, and the failed check closes the stroke record. -/
def camStroke (level : Bool) : State :=
  let points : List CamPoint :=
    [⟨20000, .advance, .auxOn 2⟩, ⟨20400, .advance, .check 5 true⟩, ⟨20600, .advance, .mark⟩]
  setImage 30 (fun i => { i with aux := [false, false, false, false, false, level, false, false] })
    { line with cam := { line.cam with
      bankB := { state := .active, points := points, underTrial := false }
      stroke := some { direction := .advance, live := true, bank := some .b, previous := some 20025, fired := [0] } } }

theorem test_cam_hand_over :
    ((camStroke true).handOver 20930).1.cam.stroke.map StrokeRecord.fired = some [0, 1, 2] ∧
      ((camStroke true).handOver 20930).2 = false ∧ ((camStroke false).handOver 20930).2 = true ∧
      ((camStroke false).handOver 20930).1.cam.stroke = none := by decide

/-- Section 10.9: a full queue loses a TRACE report, and an ALARM displaces the head. -/
theorem test_report_overflow :
    let ev : QueuedReport := { report := .feedStart .gate none, time := 1, indexCount := 0 }
    let al : QueuedReport := { report := .nodeLost 1, time := 9, indexCount := 0 }
    let c := { part.clu with reports := List.replicate 32 ev }
    (c.take { ev with time := 8 }).overflow = { alarms := 0, events := 0, traces := 1, first := some 8 } ∧
      (c.take al).reports = List.replicate 31 ev ++ [al] := by decide

/-- Section 4.10: the decision gives START with program 36 and stage 1 of 60.0 s. -/
theorem test_decision_starts :
    let s := { withPallets [.empty, .pallet 40, .empty, .empty] [pallet 40 1 (some block)] (machineOne line) with
      rtb := line.rtb.set 2 [36, 0] }
    ((s.decide 1 .start).unit 1).programOut = 36 ∧ ((s.decide 1 .start).unit 1).stage1 = some 60000 ∧
      ((s.decide 1 .start).unit 1).state = .working := by decide

/-- R112: the setpoint frame with its checksum, and R183: the frame of a scan of the line node. -/
theorem test_link_bytes :
    ({ sequence := 3, enable := true, position := -1 } : Setpoint).bytes = [0x5A, 1, 0xFF, 0xFF, 0xFF, 0xFF, 3, 0xA6] ∧
      ((after .ringScan part).ringFrame.map (·.take 12)) = some [0x3C, 0, 1, 0, 30, 0, 0, 0, 0, 0, 0, 0xE2] := by decide

/-- R130: the line state is judged before a level byte of a point that is neither 0 nor 1. -/
theorem test_line_state_before_level_byte :
    let f : Frame := { kind := 0x0A, tag := 1, payload := [0, 0, 1, 0, 0, 0, 5, 0, 2, 1, 3, 1, 2] }
    (part.execute f).1 = .refused .wrongState [] ∧ (line.execute f).1 = .refused .badField [] := by decide

/-- R64, R104, R108, R35: a lift timeout cancels the RAISE that waits behind the LOWER pulse; CLAMP completing in an open
held interval leaves the top-up in hand; the reply to PALLET PLACE at position 0 states that the pallet has no block. -/
theorem test_review_points :
    let channel : Channel :=
      { pulse := some { side := .disengage, timer := 9, requesters := [.lift] }, commanded := some .disengage
        pending := some { side := .engage, requesters := [.lift] } }
    let s := { lineIn .running (some .lift) line with sct := { line.sct with
      lift := channel, movement := some { move := .raise, timer := 0 } } }
    (after .liftTimeout s).sct.lift.pending = none ∧ (after .liftTimeout s).isq.line = .halted ∧
      (State.openHeld { line with sct := { line.sct with held := true, topUp := .groupB } }).sct.topUp = .groupB ∧
      answer (after (.palletPlace 1 9 0 none) line) = some (.ok [0]) := by decide

/-! ## Witnesses: states and operands that meet the hypotheses of each statement, clause by clause -/

theorem witness_StepTakesTheFrontCommand :
    ({ part with pending := [.hold 0] } : State).pending = [.hold 0] ∧ part.pending = [] := by decide

theorem witness_EveryStepKeepsTheLinkSafe :
    ∃ s t, State.Safe s ∧ s.pending ≠ [] ∧ step s = .next t :=
  ⟨{ line with pending := [.hold 7] }, _, ⟨by decide, by decide, by decide, by decide, by decide⟩, by decide, rfl⟩

theorem witness_RefusedRequestChangesNothing :
    (Request.run.perform part).1 = .refused .wrongState [] ∧
      (part.execute { kind := 0x2A, tag := 1, payload := [] }).1 = .refused .unknownKind [] ∧
      (part.execute { kind := Request.hold.kind, tag := 1, payload := [0] }).1 = .refused .badLength [] := by decide

theorem witness_FieldEventsKeepTheSetup :
    ∃ t, Instr.motionTick.isField = true ∧ line.clu.requestQueue = [] ∧ exec .motionTick line = .next t :=
  ⟨_, by decide, by decide, rfl⟩

theorem witness_RequestsReadBack :
    (Request.echo (noBytes 239)).fits = true ∧ Request.ident.fits = true ∧ (Request.palletAdmit 250 true).fits = true := by
  refine ⟨?_, by decide, by decide⟩
  simp [Request.fits, Config.maxPayload, length_noBytes]

theorem witness_FramesReadBack :
    (noBytes 240).length ≤ 240 ∧ part.clu.framer = .hunt ∧ part.clu.breakSeen = false :=
  ⟨Nat.le_of_eq (length_noBytes 240), rfl, rfl⟩

theorem witness_FrameReceivedIsTheEventOfItsFrame :
    part.Free ∧ part.clu.overflow.first = none ∧ (noBytes 240).length ≤ 240 ∧ part.clu.framer = .hunt ∧
      part.clu.breakSeen = false :=
  ⟨by decide, by decide, Nat.le_of_eq (length_noBytes 240), rfl, rfl⟩

/-- The part with another Cell Link Unit. -/
def withClu (f : Clu → Clu) (s : State) : State := { s with clu := f s.clu }

theorem witness_FramesAreAbandoned :
    let s := withClu (fun c => { c with framer := .length }) part
    s.Calm ∧ s.clu.overflow.first = none ∧ s.clu.breakSeen = false ∧ s.clu.framer = .length ∧
      240 < (241 : Byte).toNat := by decide

theorem witness_BreakIsAHold :
    let seen := withClu (fun c => { c with breakSeen := true }) part
    let running := lineIn .running (some .lift) line
    let waiting := lineIn .running (some .wait) line
    (seen.Calm ∧ seen.clu.overflow.first = none ∧ seen.clu.breakSeen = true) ∧
      (running.Calm ∧ running.clu.breakSeen = false ∧ running.isq.line = .running ∧ running.isq.phase ≠ some .wait) ∧
      (waiting.Calm ∧ waiting.clu.breakSeen = false ∧ waiting.isq.line = .running ∧ waiting.isq.phase = some .wait) ∧
      line.Calm ∧ line.clu.breakSeen = false ∧ line.isq.line ≠ .running := by decide

/-- A reply, a BUSY reply and a report. -/
def aReply : Reply := { kind := 0x1A, tag := 1, answer := .ok [] }
def aBusy : BusyReply := { kind := 0x1B, tag := 2 }
def anEvent : QueuedReport := { report := .foreignRemoved 1, time := 1, indexCount := 0 }
def aTrace : QueuedReport := { report := .phase .lift 0, time := 3, indexCount := 0 }
def anAlarm : QueuedReport := { report := .nodeLost 1, time := 2, indexCount := 0 }

theorem witness_TransmitDoneChoosesTheNextFrame :
    let replyOnly := withClu (fun c => { c with replySlot := some aReply }) part
    let busyFirst := withClu (fun c => { c with replySlot := some aReply, busyList := [aBusy], busyAhead := 1 }) part
    let reportOnly := withClu (fun c => { c with reports := [anEvent] }) part
    (replyOnly.inReset = false ∧ replyOnly.clu.requestQueue = [] ∧ replyOnly.clu.overflow.first = none ∧
        replyOnly.clu.transmitting.isSome = true ∧ replyOnly.clu.replySlot = some aReply ∧ replyOnly.clu.busyList = []) ∧
      (busyFirst.clu.requestQueue = [] ∧ busyFirst.clu.busyList = [aBusy] ∧ busyFirst.clu.busyAhead ≠ 0) ∧
      (reportOnly.clu.replySlot = none ∧ reportOnly.clu.busyList = [] ∧ reportOnly.clu.reports = [anEvent]) ∧
      part.clu.transmitting.isSome = true ∧ part.clu.replySlot = none ∧ part.clu.busyList = [] ∧
      part.clu.reports = [] := by decide

theorem witness_FreedSlotExecutesTheNextRequest :
    let s := withClu (fun c => { c with replySlot := some aReply, requestQueue := [Request.hold.frame 5] }) part
    s.inReset = false ∧ s.clu.transmitting.isSome = true ∧ s.clu.replySlot = some aReply ∧ s.clu.busyList = [] ∧
      Request.hold.fits = true ∧ s.clu.requestQueue = [Request.hold.frame 5] := by decide

theorem witness_ArrivingRequestQueuesOrIsBusy :
    let q (n : Nat) := List.replicate n (Request.hold.frame 5)
    let three := withClu (fun c => { c with requestQueue := q 3 }) part
    let busy := withClu (fun c => { c with requestQueue := q 4, busyList := List.replicate 3 aBusy }) part
    let full := withClu (fun c => { c with requestQueue := q 4, busyList := List.replicate 4 aBusy }) part
    three.clu.requestQueue.length < 4 ∧ (4 ≤ busy.clu.requestQueue.length ∧ busy.clu.busyList.length < 4) ∧
      4 ≤ full.clu.requestQueue.length ∧ 4 ≤ full.clu.busyList.length := by decide

theorem witness_ReportsAreTakenByTheTable :
    let c := part.clu
    let off := { c with eventOn := false }
    let room := { c with reports := List.replicate 31 anEvent }
    let alarms := { c with reports := List.replicate 32 anAlarm }
    let mixed := { c with reports := List.replicate 2 anAlarm ++ anEvent :: List.replicate 29 anEvent }
    let lost := withClu (fun c => { c with overflow := { alarms := 0, events := 1, traces := 0, first := some 8 } }) part
    off.passes anEvent.report.cls = false ∧ (room.passes anEvent.report.cls = true ∧ room.reports.length < 32) ∧
      (32 ≤ mixed.reports.length ∧ aTrace.report.cls ≠ .alarm ∧ mixed.passes aTrace.report.cls = true) ∧
      (32 ≤ alarms.reports.length ∧ alarms.passes anAlarm.report.cls = true ∧
        ∀ r ∈ alarms.reports, r.report.cls = .alarm) ∧
      anAlarm.report.cls = .alarm ∧ mixed.reports = [anAlarm, anAlarm] ++ anEvent :: List.replicate 29 anEvent ∧
      (∀ x ∈ [anAlarm, anAlarm], x.report.cls = .alarm) ∧ anEvent.report.cls ≠ .alarm ∧
      part.clu.overflow.first = none ∧ lost.clu.overflow.first = some 8 ∧ lost.clu.reports.length < 32 := by decide

theorem witness_LinkRequestsAnswer :
    part.Free ∧ (noBytes 239).length ≤ 239 ∧ 0x21 ≤ (0x21 : Byte).toNat ∧ (0x3F : Byte).toNat ≤ 0x3F :=
  ⟨by decide, Nat.le_of_eq (length_noBytes 239), by decide, by decide⟩

theorem witness_ResetPutsEveryBlockInItsCondition :
    ({ part with inReset := true } : State).inReset = true ∧ Instr.topup ≠ .rstAssert ∧
      ∀ r1 r0 : Bool, Instr.run 1 ≠ .powerOnReset r1 r0 := by decide

theorem witness_QueryStatusCarriesTheStatus : part.Free ∧ line.Free := by decide

theorem witness_QueryStationCarriesTheUnit :
    line.Free ∧ ¬(1 ≤ (0 : Byte).toNat ∧ (0 : Byte).toNat ≤ line.isq.stations.getD 24) ∧
      ¬(1 ≤ (3 : Byte).toNat ∧ (3 : Byte).toNat ≤ line.isq.stations.getD 24) ∧
      (1 ≤ (2 : Byte).toNat ∧ (2 : Byte).toNat ≤ line.isq.stations.getD 24) ∧
      1 ≤ (24 : Byte).toNat ∧ (24 : Byte).toNat ≤ part.isq.stations.getD 24 := by decide

/-- The line with pallet 250 at the unload position, offline pallet 1, and pallet 7 with a block at station 1. -/
def stocked : State :=
  let l := withPallets [.empty, .pallet 7, .empty, .pallet 250] [pallet 1 3 none, pallet 7 2 (some block), pallet 250 9 none]
    (machineOne line)
  { l with prg := { l.prg with offline := [1] } }

theorem witness_RegisterQueriesCarryTheRegister :
    stocked.Free ∧ ¬(1 ≤ (0 : Byte).toNat ∧ (0 : Byte).toNat ≤ 250) ∧ ¬(1 ≤ (251 : Byte).toNat ∧ (251 : Byte).toNat ≤ 250) ∧
      stocked.record 2 = none ∧ (stocked.record 250).isSome = true := by decide

/-- SET LINE with N alone. -/
def onlyN (n : Byte) : LineFields :=
  ⟨some n, none, none, none, none, none, none, none, none, none, none, none, none, none, none, none, none, none, none, none,
    none, none, none⟩

theorem witness_FirstSetLineConfiguresTheLine :
    part.Free ∧ part.isq.line = .unconfigured ∧ part.prg.map = [] ∧ part.prg.queue = [] ∧
      part.structural (onlyN 2) = true ∧ part.unitBlocks 2 = false ∧ part.structural (onlyN 24) = true ∧
      part.unitBlocks 24 = false ∧ part.structural { onlyN 24 with stroke := some 100000 } = true ∧
      part.pointAbove 100000 = false := by decide

/-- The whole effect of SET LINE: in UNCONFIGURED, and in HELD with N absent. -/
theorem witness_SetLineWhole :
    let keep := { onlyN 2 with n := none }
    (part.Free ∧ 2 = given (onlyN 2).n part.n ∧ part.isq.line = .unconfigured ∧ part.structural (onlyN 2) = true ∧
        part.shrinkBlocked 2 = false ∧ part.prg.queue.length ≤ given (onlyN 2).c part.prg.capacity ∧
        part.unitBlocks 2 = false) ∧
      (line.Free ∧ 2 = given keep.n line.n ∧ line.isq.line = .held ∧ line.barHome = true ∧ line.cam.trial = none ∧
        line.structural keep = true ∧ line.shrinkBlocked 2 = false ∧
        line.prg.queue.length ≤ given keep.c line.prg.capacity ∧ line.unitBlocks 2 = false) ∧
      line.isq.stations = some 2 ∧ part.isq.stations = none ∧ line.pointAbove 100000 = false := by decide

/-- Four stations with every slot empty. -/
def fourStations : State :=
  { line with
    isq := { line.isq with stations := some 4 }, prg := { line.prg with map := List.replicate 6 .empty } }

/-- The clauses of SET LINE in HELD, with N raised and lowered. -/
theorem witness_SetLineInHeld :
    (line.Free ∧ line.isq.line = .held ∧ line.barHome = true ∧ line.cam.trial = none ∧
        line.structural (onlyN 24) = true ∧ line.shrinkBlocked 24 = false ∧
        line.prg.queue.length ≤ given (onlyN 24).c line.prg.capacity ∧ line.unitBlocks 24 = false) ∧
      fourStations.Free ∧ fourStations.isq.line = .held ∧ fourStations.barHome = true ∧
      fourStations.structural { onlyN 2 with stroke := some 100000 } = true ∧ fourStations.shrinkBlocked 2 = false ∧
      fourStations.unitBlocks 2 = false ∧ fourStations.pointAbove 100000 = false := by decide

/-- The refusals of SET LINE. -/
theorem witness_SetLineRefused :
    let away := { line with mgn := { line.mgn with commanded := 5 } }
    let busy := fourStations.modUnit 3 fun u => { u with state := .faulted }
    let tall := { line with cam := { line.cam with
      bankA := { state := .armed, points := [⟨100001, .advance, .mark⟩], underTrial := false } } }
    ((lineIn .running (some .wait) line).Free ∧ (lineIn .halted none line).Free) ∧
      (away.Free ∧ away.isq.line = .held ∧ away.barHome = false) ∧
      (line.structural (onlyN 1) = false ∧ line.structural (onlyN 25) = false ∧
        part.structural { onlyN 2 with n := none } = false) ∧
      (firstIndex.isq.line = .held ∧ firstIndex.barHome = true ∧ firstIndex.structural (onlyN 2) = true ∧
        firstIndex.shrinkBlocked 2 = true ∧ given (some (1 : Byte)) firstIndex.prg.capacity < firstIndex.prg.queue.length) ∧
      (busy.Free ∧ busy.shrinkBlocked 2 = false ∧ busy.unitBlocks 2 = true) ∧
      tall.Free ∧ tall.structural { onlyN 2 with stroke := some 100000 } = true ∧ tall.unitBlocks 2 = false ∧
      tall.shrinkBlocked 2 = false ∧ tall.pointAbove 100000 = true := by decide

/-- SET STATION of a GAUGE with the final-gauge flag and both preloads at 0. -/
def gaugeFields (k : Byte) : StationFields := ⟨k, 1, some 1, 0, 1, 0, 0, true⟩

theorem witness_SetStationWritesTheRecord :
    part.Free ∧ part.isq.stations = none ∧
      stationRecord (gaugeFields 24) =
        some { kind := .gauge, group := some .b, faultMode := .edge, policy := .abandon, p1 := 1, p2 := 1, finalGauge := true } ∧
      (part.unit 24).state = .vacant ∧ (part.unit 1).state = .vacant ∧ part.otherFinalGauge 24 = false := by decide

/-- SET STATION of a kind, a clamp group and a fault mode, P1 given and P2 at 0. -/
def kindFields (k kind : Byte) (group : Option Byte) (mode : Byte) : StationFields := ⟨k, kind, group, mode, 0, 600, 0, false⟩

/-- Station 1 of the line, a MACHINE of group A, in a unit state with the final-gauge flag of station 2 as given. -/
def unitIn (st : UnitState) (gauge : Bool) : State :=
  (machineOne line).modUnit 1 (fun u => { u with state := st, clampWatch := true }) |>.modUnit 2 fun u =>
    { u with config := { u.config with finalGauge := gauge } }

/-- Station 1 faulted with a resume, its slot empty. -/
def faultAlone (resume : Resume) : State :=
  (machineOne line).modUnit 1 fun u => { u with
    state := .faulted
    fault := some { cause := .fltInput, clampLost := false, resume := resume, doneWhileFaulted := false, reclamp := false } }

theorem witness_SetStationWritesTheRecord_refused :
    ((lineIn .running (some .wait) line).Free ∧ (lineIn .halted none line).Free) ∧
      (line.Free ∧ line.isq.line = .held ∧ ¬(1 ≤ (0 : Byte).toNat) ∧ ¬((3 : Byte).toNat ≤ line.isq.stations.getD 24)) ∧
      (part.Free ∧ part.isq.line = .unconfigured ∧ ¬((25 : Byte).toNat ≤ part.isq.stations.getD 24)) ∧
      (stationRecord (kindFields 1 3 none 0) = none ∧ stationRecord (kindFields 1 0 none 0) = none ∧
        stationRecord (kindFields 1 2 (some 0) 0) = none) ∧
      ((unitIn .vacant true).Free ∧ ((unitIn .vacant true).unit 2).config.finalGauge = true ∧
        (stationRecord (gaugeFields 1)).any (fun c => c.finalGauge) = true) ∧
      (∀ st ∈ [UnitState.working, .late, .abandoning], (unitIn st false).Free ∧ ((unitIn st false).unit 1).state = st) ∧
      ((faultAlone .abandon).Free ∧ ((faultAlone .abandon).unit 1).state = .faulted ∧
        (stationRecord (kindFields 1 1 (some 0) 0)).any (fun c => c.kind ≠ ((faultAlone .abandon).unit 1).config.kind) = true) ∧
      ((faultAlone .vacant).Free ∧ ((faultAlone .vacant).unit 1).state = .faulted ∧ (faultAlone .vacant).palletAt 1 = none) ∧
      (stocked.Free ∧ stocked.palletAt 1 ≠ none ∧ (stocked.unit 1).state ≠ .faulted) ∧
      (let s := { unitIn .complete false with rtb := line.rtb.set 7 [250, 0] }
       s.Free ∧ s.palletAt 1 = none ∧ s.program 7 1 ≠ 0 ∧ (s.unit 1).state ≠ .faulted) := by decide

theorem witness_SetStationWritesTheRecord_done :
    ((unitIn .complete false).Free ∧ (unitIn .complete false).palletAt 1 = none ∧
        (∀ v, v < 8 → (unitIn .complete false).program v 1 = 0) ∧
        (stationRecord (kindFields 1 2 none 0)).any (fun c => c.kind = .idle) = true) ∧
      ((unitIn .working false).Free ∧
        stationRecord (kindFields 1 0 (some 0) 0) = some { ((unitIn .working false).unit 1).config with p2 := 1 }) ∧
      (let s := withPallets [.empty, .empty, .pallet 7, .empty] [] line
       s.Free ∧ (s.unit 2).config.kind = .idle ∧ s.isq.line = .held ∧ s.palletAt 2 ≠ none ∧
         (stationRecord (kindFields 2 1 (some 1) 1)).any (fun c => c.kind = .gauge ∧ c.faultMode = .level) = true) ∧
      (let s := setImage 1 (fun i => { i with flt := true }) (unitIn .complete false)
       s.Free ∧ (s.image 1).flt = true ∧ (s.unit 1).config.faultMode = .edge ∧ (s.unit 1).state ≠ .faulted ∧
         (stationRecord (kindFields 1 0 (some 0) 1)).any (fun c => c.faultMode = .level) = true) := by decide

/-- A station made IDLE: COMPLETE becomes VACANT, the watch is cleared, the waiting pulse is cancelled (R71, R86, R95). -/
theorem test_setStation_idle :
    let s := (unitIn .complete false).modChannel (.clamp 1) fun _ =>
      { pulse := some { side := .engage, timer := 5, requesters := [.position] }, commanded := some .engage
        pending := some { side := .disengage, requesters := [.emptyFixture] } }
    let t := after (.setStation 0 (kindFields 1 2 none 0)) s
    answer t = some (.ok [1, 7]) ∧ (t.unit 1).state = .vacant ∧ (t.unit 1).clampWatch = false ∧
      t.channel (.clamp 1) =
        some { pulse := some { side := .engage, timer := 5, requesters := [.position] }, commanded := none
               pending := none } := by decide

theorem witness_SetRouteReplacesTheRoute :
    (part.Free ∧ part.isq.line = .unconfigured) ∧ (line.Free ∧ line.isq.line ≠ .unconfigured ∧ 7 < (8 : Byte).toNat) ∧
      ([0, 0, 0] : List Byte).length ≠ line.n ∧ (∃ b ∈ ([0, 251] : List Byte), 250 < b.toNat) ∧
      ((7 : Byte).toNat ≤ 7 ∧ ([5, 0] : List Byte).length = line.n ∧ ([5, 0] : List Byte)[0]? = some 5 ∧
        (line.unit 1).config.kind = .idle) ∧
      ([250, 0] : List Byte).length = (machineOne line).n ∧ (∀ x ∈ ([250, 0] : List Byte), x.toNat ≤ 250) ∧
      (machineOne line).Free := by decide

theorem witness_SetRouteReplacesTheRoute_kinds (i : Nat) (b : Byte) (h : ([250, 0] : List Byte)[i]? = some b) (hb : b ≠ 0) :
    ((machineOne line).unit (i + 1)).config.kind ≠ .idle := by
  rcases i with _ | _ | i
  · decide
  · simp at h; exact absurd h.symm hb
  · simp at h

theorem witness_SetRouteReplacesTheRoute_lengths : 238 < (noBytes 239).length ∧ ([250, 0] : List Byte).length ≤ 238 :=
  ⟨by simp [length_noBytes], by decide⟩

/-- The line with bank A OPEN. -/
def openBank : State := { line with cam := { line.cam with bankA := Bank.initial } }

theorem witness_CamWriteWritesTheBank :
    let long : PointFields := ⟨1200000, 1, 2, some 7, some true⟩
    openBank.Free ∧ openBank.isq.line ≠ .unconfigured ∧
      (∀ id ∈ [BankId.a, .b], (openBank.cam.bank id).state = .open_ ∧ (openBank.cam.bank id).underTrial = false ∧
        (0 : Byte).toNat ≤ (openBank.cam.bank id).points.length) ∧
      ([] : List PointFields).mapM camPoint = some [] ∧
      [long].mapM camPoint = some [{ position := 1200000, stroke := .returning, action := .check 7 true }] := by decide

theorem witness_CamWriteWritesTheBank_lengths :
    let long : PointFields := ⟨1200000, 1, 2, some 7, some true⟩
    240 < (Request.camWrite 1 0 (List.replicate 24 long)).payload.length ∧
      (Request.camWrite 1 0 (List.replicate 23 long)).payload.length ≤ 240 := by
  intro long
  have h : (encodePoint long).length = 10 := by decide
  simp [Request.payload, listOf, u8, h]

theorem witness_CamArmAndDisarm :
    let b := { openBank with cam := { openBank.cam with bankB := { Bank.initial with state := .armed } } }
    let relied (s : State) : State := { s with prg := { s.prg with openIndex := true } }
    (openBank.Free ∧ openBank.isq.line ≠ .unconfigured ∧ ∀ id ∈ [BankId.a, .b],
        (openBank.cam.bank id).state = .open_ ∧ (openBank.cam.bank id.other).state ≠ .armed ∧
        (openBank.cam.bank id).fault openBank.mgn.settings.stroke = none) ∧
      (b.Free ∧ b.cam.bankA.state = .open_ ∧ b.cam.bankB.state = .armed) ∧
      (line.Free ∧ line.cam.bankB.state = .open_ ∧ line.cam.bankA.state = .armed) ∧
      (line.prg.openIndex = false ∧ b.prg.openIndex = false) ∧
      ((relied line).Free ∧ (relied line).prg.openIndex = true ∧ (relied line).cam.bankB.state ≠ .active) ∧
      (relied b).Free ∧ (relied b).prg.openIndex = true ∧ (relied b).cam.bankA.state ≠ .active := by decide

theorem witness_TrialStarts :
    line.Free ∧ line.isq.line = .held ∧ line.cam.trial = none ∧ line.barHome = true ∧ line.sct.liftState = .down ∧
      line.nodeLost 30 = false ∧ line.cam.bankA.state ≠ .open_ ∧
      line.cam.bankB.fault line.mgn.settings.stroke = none := by decide

theorem witness_EnrolTailJoinsTheQueue :
    line.Free ∧ line.isq.line ≠ .unconfigured ∧ line.record 250 = none ∧ line.foreignId ≠ some 250 ∧
      line.prg.records.length < 64 ∧ line.prg.queue.length + line.reserved < line.prg.capacity := by decide

/-- A FOREIGN pallet 188 at position 0. -/
def foreignPart : State :=
  let l := withPallets [.foreign 188, .empty, .empty, .empty] [] line
  { l with fdu := { l.fdu with state := .foreign } }

theorem witness_EnrolLoadRegistersTheForeignPallet :
    foreignPart.Free ∧ foreignPart.isq.line ≠ .unconfigured ∧ foreignPart.foreignId = some 188 ∧
      foreignPart.record 188 = none ∧ foreignPart.prg.records.length < 64 ∧ foreignPart.fdu.state = .foreign := by decide

theorem witness_PlaceAtAStation :
    stocked.Free ∧ stocked.isq.line = .held ∧ (2 : Byte).toNat ≤ stocked.n ∧ stocked.slot 2 = .empty ∧
      stocked.foreignId ≠ some 8 ∧ stocked.record 8 = none ∧ stocked.prg.records.length < 64 ∧
      (stocked.unit 2).config.kind = .idle ∧ line.slot 1 = .empty ∧ ((machineOne line).unit 1).config.kind ≠ .idle := by
  decide

theorem witness_PlaceAtTheLoadPosition :
    line.Free ∧ line.isq.line = .held ∧ 1 ≤ (250 : Byte).toNat ∧ (250 : Byte).toNat ≤ 250 ∧ line.fdu.state = .empty ∧
      line.slot 0 = .empty ∧ line.prg.map ≠ [] ∧ line.record 250 = none ∧ line.prg.records.length < 64 ∧
      serialOk [0x41] = true ∧ (7 : Byte).toNat ≤ 7 := by decide

/-- The stocked line with offline pallet 1 carrying a locked block. -/
def lockedAway : State :=
  { stocked with prg := { stocked.prg with records := [pallet 1 3 (some { block with lock := true })] } }

theorem witness_PlaceAtAStation_refused :
    (part.Free ∧ part.isq.line = .unconfigured) ∧
      ((lineIn .running (some .wait) line).Free ∧ (lineIn .running (some .wait) line).isq.line = .running) ∧
      (line.Free ∧ line.isq.line = .held ∧ ¬(1 ≤ (0 : Byte).toNat) ∧ ¬((251 : Byte).toNat ≤ 250) ∧ ¬((4 : Byte).toNat ≤ line.n + 1)) ∧
      (serialOk [] = false ∧ ¬((8 : Byte).toNat ≤ 7) ∧ ¬((3 : Byte).toNat ≤ 2)) ∧
      (stocked.Free ∧ stocked.slot 1 ≠ .empty ∧ stocked.slot 0 = .empty ∧ (3 : Byte).toNat ≤ stocked.n + 1) ∧
      (let s := { line with fdu := { line.fdu with state := .feeding } }
       s.Free ∧ s.slot 0 = .empty ∧ s.fdu.state ≠ .empty) ∧
      (foreignPart.Free ∧ foreignPart.isq.line = .held ∧ foreignPart.foreignId = some 188 ∧ foreignPart.slot 1 = .empty) ∧
      ((stocked.record 7).isSome = true ∧ stocked.location 7 ≠ .offline ∧ stocked.slot 2 = .empty) ∧
      (lockedAway.Free ∧ lockedAway.location 1 = .offline ∧ (lockedAway.record 1).any (fun r => r.block.isSome) = true ∧
        lockedAway.slot 2 = .empty) := by decide

theorem witness_PlaceAtAStation_full :
    let s := { line with prg := { line.prg with records := (List.range 64).map fun i => pallet (i + 1) 0 none } }
    s.Free ∧ s.isq.line = .held ∧ s.slot 1 = .empty ∧ s.record 200 = none ∧ 64 ≤ s.prg.records.length := by decide

theorem witness_PlaceAtAStation_long :
    line.Free ∧ 234 < (noBytes 235).length := ⟨by decide, by simp [length_noBytes]⟩

theorem witness_PlaceAtAStation_offline :
    (stocked.Free ∧ stocked.isq.line = .held ∧ stocked.record 1 = some (pallet 1 3 none) ∧ stocked.location 1 = .offline ∧
        stocked.foreignId ≠ some 1 ∧ stocked.slot 0 = .empty ∧ stocked.fdu.state = .empty ∧ stocked.prg.map ≠ []) ∧
      (lockedAway.record 1 = some (pallet 1 3 (some { block with lock := true })) ∧ lockedAway.location 1 = .offline ∧
        lockedAway.slot 2 = .empty ∧ (lockedAway.unit 2).config.kind = .idle) ∧
      (line.slot 3 = .empty ∧ (3 : Byte).toNat = line.n + 1) ∧
      (line.slot 2 = .empty ∧ (2 : Byte).toNat ≤ line.n) ∧
      ((machineOne line).Free ∧ (machineOne line).slot 1 = .empty ∧ ((machineOne line).unit 1).config.kind ≠ .idle) ∧
      blockOf ⟨[0x41], 2, 0⟩ = some block := by decide

theorem witness_UnplaceTakesThePalletOffline :
    stocked.Free ∧ stocked.isq.line = .held ∧ 1 ≤ stocked.n ∧ stocked.palletAt 1 = some 7 ∧
      (stocked.unit 1).state.atWork = false := by decide

theorem witness_UnplaceTakesThePalletOffline_refused :
    (part.Free ∧ part.isq.line = .unconfigured) ∧
      (stocked.Free ∧ stocked.isq.line = .held ∧ stocked.n + 1 < (4 : Byte).toNat) ∧
      (stocked.palletAt 2 = none ∧ foreignPart.palletAt 0 = none ∧ foreignPart.Free) ∧
      ∀ st ∈ [UnitState.working, .late, .abandoning],
        let s := stocked.modUnit 1 fun u => { u with state := st }
        s.Free ∧ s.palletAt 1 = some 7 ∧ (s.unit 1).state = st := by decide

theorem witness_UnplaceTakesThePalletOffline_ends :
    (stocked.Free ∧ stocked.palletAt 3 = some 250 ∧ (3 : Byte).toNat = stocked.n + 1) ∧
      (let s := withPallets [.pallet 7, .empty, .empty, .empty] [pallet 7 2 none] line
       let s := { s with
         prg := { s.prg with disagreement := some .phantom }, fdu := { s.fdu with state := .ready, loadWait := some 5 } }
       s.Free ∧ s.palletAt 0 = some 7 ∧ s.fdu.state ≠ .empty ∧ s.prg.disagreement ≠ none) ∧
      ∀ st ∈ [UnitState.vacant, .seated, .complete, .faulted],
        let s := stocked.modUnit 1 fun u => { u with state := st }
        s.Free ∧ s.palletAt 1 = some 7 ∧ (s.unit 1).state = st := by decide

theorem witness_AdmitReturnsThePallet :
    stocked.Free ∧ stocked.isq.line ≠ .unconfigured ∧ stocked.record 1 = some (pallet 1 3 none) ∧
      stocked.location 1 = .offline ∧ stocked.foreignId ≠ some 1 ∧
      stocked.prg.queue.length + stocked.reserved < stocked.prg.capacity := by decide

theorem witness_WithdrawSetsTheFlag :
    (part.Free ∧ part.isq.line = .unconfigured) ∧ stocked.Free ∧ stocked.isq.line ≠ .unconfigured ∧
      ¬(1 ≤ (251 : Byte).toNat ∧ (251 : Byte).toNat ≤ 250) ∧ stocked.record 2 = none ∧
      (stocked.record 250).isSome = true ∧ stocked.palletAt (stocked.n + 1) = some 250 := by decide

theorem witness_RetireDeletesTheRecord :
    (part.Free ∧ part.isq.line = .unconfigured) ∧ stocked.Free ∧ stocked.isq.line ≠ .unconfigured ∧
      ¬(1 ≤ (0 : Byte).toNat ∧ (0 : Byte).toNat ≤ 250) ∧ stocked.record 2 = none ∧
      (stocked.record 7 = some (pallet 7 2 (some block)) ∧ stocked.location 7 ≠ .offline) ∧
      (lockedAway.Free ∧ lockedAway.location 1 = .offline ∧
        (lockedAway.record 1).any (fun r => r.block.any Block.lock) = true) ∧
      stocked.location 1 = .offline ∧ (stocked.record 1).any (fun r => r.block.any Block.lock) = false ∧
      (stocked.record 1).isSome = true := by decide

/-- Pallet 7 waits at position 0. -/
def waitingAtLoad (level : Bool) : State :=
  let l := setImage 0 (fun i => { i with block := level })
    (withPallets [.pallet 7, .empty, .empty, .empty] [pallet 7 2 none] line)
  { l with fdu := { l.fdu with state := .awaitingBlock, loadWait := some 30000 } }

theorem witness_BlockAssignAndEmpty :
    serialOk [0x20] = true ∧ serialOk (List.replicate 16 0x7E) = true ∧ (7 : Byte).toNat ≤ 7 ∧
      ((waitingAtLoad false).Free ∧ (waitingAtLoad false).isq.line = .held ∧
        (waitingAtLoad false).fdu.state = .awaitingBlock ∧ (waitingAtLoad false).palletAt 0 = some 7 ∧
        ((waitingAtLoad false).image 0).block = false) ∧
      (waitingAtLoad true).Free ∧ ((waitingAtLoad true).image 0).block = true := by decide

/-- BLOCK ASSIGN and BLOCK EMPTY: what may be, the refusals, and RUNNING. -/
theorem witness_BlockAssignAndEmpty_whole :
    let empty (b : Bool) : State := { waitingAtLoad b with fdu := { (waitingAtLoad b).fdu with
      state := .ready, loadWait := none } }
    let opened := { empty true with prg := { (empty true).prg with openIndex := true } }
    let run (b : Bool) : State := lineIn .running (some .wait) (waitingAtLoad b)
    ((empty true).Free ∧ (empty true).fdu.state = .ready ∧ (empty true).blockAt 0 = none ∧
        (empty true).prg.openIndex = false ∧ (empty true).palletAt 0 = some 7 ∧ ((empty true).image 0).block = true) ∧
      ((empty false).Free ∧ ((empty false).image 0).block = false) ∧
      (opened.Free ∧ opened.fdu.state ≠ .awaitingBlock ∧ opened.prg.openIndex = true) ∧
      ((run true).Free ∧ (run true).isq.line = .running ∧ (run true).palletAt 0 = some 7 ∧
        ((run true).image 0).block = true ∧ (run false).Free ∧ ((run false).image 0).block = false) ∧
      (part.Free ∧ part.isq.line = .unconfigured) ∧ ¬(1 ≤ ([] : List Byte).length) ∧
      ¬((8 : Byte).toNat ≤ 7) := by decide

theorem witness_BlockAssignAndEmpty_long : 238 < (noBytes 239).length ∧ (noBytes 238).length ≤ 238 := by
  simp [length_noBytes]

/-- R36: BLOCK ASSIGN on a pallet declared empty writes the block and leaves position 0 READY. -/
theorem test_blockAssign_ready :
    let empty := { waitingAtLoad true with fdu := { (waitingAtLoad true).fdu with state := .ready, loadWait := none } }
    let t := after (.blockAssign 1 [0x41] 2) empty
    t.fdu.state = .ready ∧ t.blockAt 0 = some block ∧ answer t = some (.ok []) := by decide

/-- R107, R150: a policy of RUN_EMPTY declares a pallet whose timer has run out empty; an interval of 0 stops the timer. -/
theorem test_setLine_policy_and_topUp :
    let waits := { waitingAtLoad false with fdu := { (waitingAtLoad false).fdu with
      loadWait := none, settings := { (waitingAtLoad false).fdu.settings with policy := .wait } } }
    let held := { line with sct := { line.sct with
      held := true, topUpTimer := some 9, settings := { line.sct.settings with topUp := 60 } } }
    let keep := { onlyN 2 with n := none }
    waits.Free ∧ (after (.setLine 1 { keep with loadWaitPolicy := some 1 }) waits).fdu.state = .ready ∧
      (after (.setLine 1 keep) waits).fdu.state = .awaitingBlock ∧
      (after (.setLine 1 { keep with topUpInterval := some 0 }) held).sct.topUpTimer = none ∧
      (after (.setLine 1 keep) held).sct.topUpTimer = some 9 := by decide

theorem witness_DisposeSetsTheDisposition :
    (part.Free ∧ part.isq.line = .unconfigured) ∧ (stocked.Free ∧ 2 < (3 : Byte).toNat) ∧ (2 : Byte).toNat ≤ 2 ∧
      stocked.record 2 = none ∧ stocked.record 250 = some (pallet 250 9 none) ∧
      stocked.record 7 = some (pallet 7 2 (some block)) ∧ block.lock = false ∧ lockedAway.Free ∧
      lockedAway.record 1 = some (pallet 1 3 (some { block with lock := true })) := by decide

theorem witness_AppendWritesOnceOrNothing :
    stocked.palletAt 1 = some 7 ∧ stocked.blockAt 1 = some block ∧ block.lock = false ∧ block.logged 1 = false ∧
      (stocked.blockAt 2).all (fun x => x.lock || x.logged 2) = true := by decide

theorem witness_ShiftMovesTheMap : stocked.prg.map ≠ [] ∧ 2 + 1 < stocked.prg.map.length := by decide

theorem witness_DischargeByFlagOrLimit :
    stocked.unloadPallet = some (pallet 250 9 none) ∧
      ¬((pallet 250 9 none).withdraw = true ∨ (stocked.prg.inspectionLimit ≠ 0 ∧ stocked.prg.inspectionLimit ≤ 10)) ∧
      (firstIndex.unloadPallet = some (pallet 27 39 none) ∧ firstIndex.prg.inspectionLimit ≠ 0 ∧
        firstIndex.prg.inspectionLimit ≤ min (39 + 1) 9999999) := by decide

theorem witness_RunEntersWait :
    line.Free ∧ line.isq.line = .held ∧ line.cam.trial = none ∧ line.seatCheck = [] ∧ line.barHome = true ∧
      line.sct.liftState = .down ∧ line.nodeLost 30 = false ∧ line.driveReady = true ∧ line.camsReady = true ∧
      (stocked.Free ∧ stocked.seatCheck ≠ []) := by decide

theorem witness_HoldByLineState :
    (lineIn .running (some .wait) line).Free ∧ (lineIn .running (some .lift) line).isq.phase ≠ some .wait ∧
      (lineIn .halted none line).isq.line ≠ .running ∧ part.Free ∧ part.isq.line ≠ .running := by decide

theorem witness_StopByLineState :
    (lineIn .running (some .returning) line).Free ∧ Phase.returning ≠ .wait ∧ (lineIn .running (some .wait) line).Free ∧
      part.isq.line = .unconfigured ∧ (lineIn .halted none line).isq.line = .halted ∧ line.isq.line = .held ∧
      line.cam.trial = none := by decide

/-- A halt in RELEASE with pallet 7 at station 1, whose clamp shows neither side as asked. -/
def haltedIn (ph : Phase) (clamped unclamped : Bool) : State :=
  let l := setImage 1 (fun i => { i with present := true, clamped := clamped, unclamped := unclamped }) stocked
  { l with isq := { l.isq with
    line := .halted, phase := none
    haltRecord := some
      { cause := .stop, phase := ph, bar := 0, stopping := false, positions := [], secondary := [], indexCount := 0 } } }

/-- PLACE and UNPLACE in HALTED: in LOCATE, CLAMP and VERIFY, and in no other halt phase. -/
theorem witness_PlaceAndUnplace_halted :
    (∀ ph ∈ [Phase.locate, .clamp, .verify],
        let s := haltedIn ph true false
        s.Free ∧ s.isq.line = .halted ∧ s.isq.haltRecord.any (fun r => r.phase = ph) = true ∧ s.palletAt 1 = some 7) ∧
      (let s := haltedIn .verify true false
       s.slot 2 = .empty ∧ s.slot 0 = .empty ∧ s.fdu.state = .empty ∧ s.record 8 = none ∧
         (let e := { s with prg := { s.prg with map := [.empty, .empty, .empty, .empty] } }
          e.Free ∧ e.slot 1 = .empty ∧ e.location 7 = .offline ∧ (e.unit 1).config.kind ≠ .idle)) ∧
      ∀ ph ∈ [Phase.release, .withdraw, .lift, .advance, .lower, .returning],
        (haltedIn ph true false).Free ∧ (haltedIn ph true false).isq.haltRecord.any (fun r => r.phase = ph) = true := by
  decide

/-- The phases from one on. -/
def phasesFrom (ph : Phase) : List Phase :=
  ([.release, .withdraw, .lift, .advance, .lower, .locate, .clamp, .verify] : List Phase).dropWhile (· ≠ ph)

/-- The checks of RECOVER: a state for each refusal. -/
theorem witness_RecoverRefused :
    let h := haltedIn .lift true false
    let stopping := { h with isq := { h.isq with
      haltRecord := h.isq.haltRecord.map fun r : HaltRecord => { r with stopping := true } } }
    let faulty := { h with mgn := { line.mgn with drive := .fault } }
    let nodeless := h.modNode 2 fun nd => { nd with state := .lost }
    let away := setImage 1 (fun i => { i with home := false }) (haltedIn .lower true false)
    (line.Free ∧ line.isq.line ≠ .halted) ∧
      (stopping.Free ∧ stopping.isq.haltRecord.any HaltRecord.stopping = true) ∧
      ((haltedIn .locate true false).Free ∧ Phase.locate ∉ [Phase.release, .withdraw, .lift, .advance]) ∧
      (faulty.Free ∧ faulty.isq.haltRecord.any (fun r => r.stopping) = false ∧ faulty.mgn.drive ≠ .ready) ∧
      (nodeless.Free ∧ nodeless.mgn.drive = .ready ∧ 2 ∈ nodeless.positionList ∧ nodeless.nodeLost 2 = true) ∧
      (away.Free ∧ away.nodeLost 30 = false ∧ (∀ p ∈ away.positionList, away.nodeLost p = false) ∧
        (away.unit 1).config.kind ≠ .idle ∧ (away.image 1).home = false ∧ 1 ∈ away.stationList) ∧
      ((haltedIn .advance true false).sct.liftState ≠ .up ∧ (haltedIn .returning true false).Free) ∧
      ¬((haltedIn .advance true false).isq.released = true) := by decide

/-- RECOVER with every check passed, from every halt phase. -/
theorem witness_RecoverRunsThePhases :
    let s := haltedIn .release true false
    let b := haltedIn .release false true
    let up := { haltedIn .advance true false with
      sct := { (haltedIn .advance true false).sct with liftState := .up }
      isq := { (haltedIn .advance true false).isq with released := true, withdrawn := true, lifted := true } }
    (∀ ph ∈ ([.release, .withdraw, .lift, .lower, .locate, .clamp, .verify, .returning] : List Phase),
        (haltedIn ph true false).Free ∧ (haltedIn ph true false).isq.line = .halted ∧
        (haltedIn ph true false).mgn.drive = .ready ∧ (haltedIn ph true false).nodeLost 30 = false ∧
        (∀ p ∈ (haltedIn ph true false).positionList, (haltedIn ph true false).nodeLost p = false) ∧
        (haltedIn ph true false).stationList.filter
            (fun k => ((haltedIn ph true false).unit k).config.kind ≠ .idle ∧ ((haltedIn ph true false).image k).home = false)
          = [] ∧
        (haltedIn ph true false).sct.liftState = .down) ∧
      (up.Free ∧ up.sct.liftState = .up ∧ up.isq.released = true ∧ up.isq.withdrawn = true ∧ up.isq.lifted = true) ∧
      (∀ ph ∈ phasesFrom .release, (phasesFrom ph ++ [Phase.returning]).head? = some ph) ∧
      (s.occupiedStations = [1] ∧ s.endsWith .release 1 = false) ∧
      b.occupiedStations = [1] ∧ b.endsWith .clamp 1 = false ∧ b.prg.disagreement = none := by decide

theorem witness_FeedPermitByLineState :
    part.isq.line = .unconfigured ∧ line.isq.line = .held ∧ (lineIn .running (some .lower) line).isq.phase = some .lower ∧
      (haltedIn .locate true false).isq.haltRecord.any (fun r => r.phase ≠ .wait) = true := by decide

/-- A line in WAIT whose six conditions hold: position 0 READY, pallet 7 at station 1 COMPLETE. -/
def readyLine : State :=
  let l := setImage 1 (fun i => { i with present := true })
    (lineIn .running (some .wait) (withPallets [.pallet 9, .pallet 7, .empty, .empty]
      [pallet 7 2 (some block), pallet 9 1 none] (machineOne line)))
  let l := l.modUnit 1 fun u => { u with state := .complete }
  { l with fdu := { l.fdu with state := .ready } }

/-- The same with a count in the wait timer. -/
def waitTimerAt (k : Nat) : State := { readyLine with isq := { readyLine.isq with waitTimer := some k } }

theorem witness_IndexStartOpensTheIndex :
    readyLine.Calm ∧ readyLine.ready = true ∧ readyLine.occupiedStations.all (readyLine.endsWith .release) = false ∧
      (line.Calm ∧ line.ready = false) ∧
      ((waitTimerAt 0).Calm ∧ (waitTimerAt 0).inWait = true ∧ (waitTimerAt 0).isq.waitTimer = some 0) ∧
      (waitTimerAt 1).isq.waitTimer ≠ some 0 := by decide

theorem witness_TimeoutsHaltTheIndex :
    let phase := { lineIn .running (some .release) line with sct := { line.sct with
      command := some { phase := .release, positions := [1], timer := 0 } } }
    let lift := { lineIn .running (some .lift) line with sct := { line.sct with
      movement := some { move := .raise, timer := 0 } } }
    let settle := { lineIn .running (some .returning) line with mgn := { line.mgn with
      motion := .settling, settleTimer := some 0, plan := some (makePlan worked .returning 0 0 0) } }
    (phase.Calm ∧ phase.isq.line = .running ∧ phase.isq.phase = some .release) ∧
      (lift.Calm ∧ lift.isq.phase = some LiftMove.raise.phase) ∧
      settle.Calm ∧ settle.mgn.motion = .settling ∧ settle.mgn.settleTimer = some 0 ∧ settle.mgn.plan.isSome = true ∧
      settle.isq.phase = some .returning := by decide

theorem witness_StationServiceSetsTheFlag :
    let out := line.modUnit 2 fun u => { u with inService := false }
    (part.Free ∧ part.isq.line = .unconfigured) ∧ line.Free ∧ line.isq.line ≠ .unconfigured ∧
      ¬(1 ≤ (0 : Byte).toNat ∧ (0 : Byte).toNat ≤ line.n) ∧ ¬(1 ≤ (3 : Byte).toNat ∧ (3 : Byte).toNat ≤ line.n) ∧
      (2 : Byte).toNat ≤ line.n ∧ (line.unit 1).inService = true ∧ out.Free ∧ (out.unit 2).inService = false := by decide

/-- Station 1 FAULTED with an operation on pallet 7. -/
def faultedAt (resume : Resume) : State :=
  stocked.modUnit 1 fun u => { u with
    state := .faulted
    operation := some { pallet := 7, program := 12, start := 0, doneSeenOff := true, result := none, interruptTaken := false }
    fault := some
      { cause := .fltInput, clampLost := false, resume := resume, doneWhileFaulted := false, reclamp := false } }

theorem witness_FaultClearActsByTheResume :
    ((faultedAt .operation).Free ∧ (faultedAt .operation).isq.line ≠ .unconfigured ∧ 1 ≤ (faultedAt .operation).n ∧
        ((faultedAt .operation).unit 1).state = .faulted ∧ (faultedAt .operation).nodeLost 1 = false ∧
        ((faultedAt .operation).unit 1).config.faultMode = .edge ∧ (faultedAt .operation).palletAt 1 = some 7) ∧
      ((faultedAt .complete).Free ∧ ((faultedAt .complete).unit 1).state = .faulted ∧
        ((faultedAt .complete).unit 1).fault.any (fun f => f.resume = .complete) = true) ∧
      (stocked.unit 1).state ≠ .faulted := by decide

/-- The fault of station 1 with the clamp lost, or its re-clamp in progress. -/
def clampLostAt (resume : Resume) (lost reclamp : Bool) : State :=
  (faultedAt resume).modUnit 1 fun u => { u with fault := u.fault.map fun f => { f with clampLost := lost, reclamp := reclamp } }

theorem witness_FaultClearActsByTheResume_refused :
    (part.Free ∧ part.isq.line = .unconfigured) ∧
      (stocked.Free ∧ stocked.isq.line ≠ .unconfigured ∧ ¬(1 ≤ (0 : Byte).toNat) ∧ ¬((3 : Byte).toNat ≤ stocked.n)) ∧
      ((clampLostAt .complete false true).Free ∧
        ((clampLostAt .complete false true).unit 1).fault.any (fun f => f.reclamp) = true) ∧
      (let s := (faultedAt .complete).modNode 1 fun nd => { nd with state := .lost }
       s.Free ∧ s.nodeLost 1 = true ∧ (s.unit 1).state = .faulted) ∧
      (let s := setImage 1 (fun i => { i with flt := true }) ((faultedAt .complete).modUnit 1 fun u =>
         { u with config := { u.config with faultMode := .level } })
       s.Free ∧ (s.unit 1).config.faultMode = .level ∧ (s.image 1).flt = true ∧ s.nodeLost 1 = false ∧
         (s.unit 1).fault.any (fun f => !f.reclamp) = true) ∧
      (let s := { faultedAt .operation with prg := { stocked.prg with map := [.empty, .pallet 250, .empty, .pallet 7] } }
       s.Free ∧ s.palletAt 1 ≠ (s.unit 1).operation.map Operation.pallet) ∧
      (∀ ph ∈ [Phase.release, .withdraw, .lift, .advance, .lower],
        let s := lineIn .running (some ph) (clampLostAt .complete true false)
        s.Free ∧ (s.unit 1).fault.any (fun f => f.clampLost) = true ∧ s.isq.phase = some ph) ∧
      (let s := { clampLostAt .complete true false with isq := (haltedIn .lower true false).isq }
       s.Free ∧ s.isq.line = .halted ∧ s.isq.haltRecord.map HaltRecord.phase = some .lower) := by decide

theorem witness_FaultClearActsByTheResume_clears :
    (∀ r ∈ [Resume.vacant, .complete, .decision, .operation, .abandon],
        let s := clampLostAt r true false
        s.Free ∧ s.isq.line = .held ∧ (s.unit 1).state = .faulted ∧ (s.unit 1).operation.isSome = true ∧
          (s.unit 1).fault.any (fun f => f.resume = r ∧ f.clampLost ∧ !f.reclamp) = true ∧ s.nodeLost 1 = false ∧
          (s.unit 1).config.kind ≠ .idle ∧ s.palletAt 1 = some 7 ∧ (s.image 1).clamped = true ∧ (s.image 1).flt = false ∧
          (s.image 1).home = true) ∧
      (let s := setImage 1 (fun i => { i with clamped := false, home := false }) (clampLostAt .abandon true false)
       s.Free ∧ (s.image 1).clamped = false ∧ (s.image 1).home = false) ∧
      (let s := (clampLostAt .complete false false).modUnit 1 fun u => { u with config := { u.config with faultMode := .level } }
       s.Free ∧ (s.unit 1).config.faultMode = .level ∧ (s.image 1).flt = false) ∧
      (let s := (clampLostAt .abandon false false).modUnit 1 (StationUnit.setResult .timedOut)
       s.Free ∧ (s.unit 1).operation.any (fun o => o.result = some .timedOut) = true) := by decide

/-- RETRY after a lost clamp asks for the re-clamp, and with CLAMPED on clears at once (R89, R97). -/
theorem test_faultClear_reclamp :
    (let t := after (.faultClearRetry 0 1) (setImage 1 (fun i => { i with clamped := false }) (clampLostAt .complete true false))
     answer t = some (.accepted []) ∧ (t.unit 1).state = .faulted ∧ (t.unit 1).fault.any (fun f => f.reclamp) = true ∧
       t.sct.requests = [{ id := .reclamp 1, timer := 3000 }]) ∧
      (let t := after (.faultClearRetry 0 1) (clampLostAt .complete true false)
       answer t = some (.accepted []) ∧ (t.unit 1).state = .complete ∧ (t.unit 1).fault = none ∧ t.sct.requests = []) := by
  decide

/-- Pallet 7 at station 1 with the given block, program 12 on route 2. -/
def decidingOn (x : Option Block) : State :=
  { withPallets [.empty, .pallet 7, .empty, .empty] [pallet 7 2 x] (machineOne line) with rtb := line.rtb.set 2 [12, 0] }

theorem witness_SeatedDecisionByItsOrders :
    line.palletAt 1 = none ∧
      ((withPallets [.empty, .pallet 7, .empty, .empty] [] line).palletAt 1 = some 7 ∧ (line.unit 1).config.kind = .idle) ∧
      ((decidingOn none).palletAt 1 = some 7 ∧ ((decidingOn none).unit 1).config.kind ≠ .idle ∧
        (decidingOn none).blockAt 1 = none) ∧
      (stocked.blockAt 1 = some block ∧ stocked.program block.variant 1 = 0) ∧
      ((decidingOn (some { block with disposition := .reject })).blockAt 1 = some { block with disposition := .reject } ∧
        (decidingOn (some block)).program block.variant 1 = 12) ∧
      (decidingOn (some block)).blockAt 1 = some block ∧ block.lock = false ∧ block.logged 1 = false ∧
      block.disposition ≠ .reject ∧ ((decidingOn (some block)).unit 1).inService = true ∧
      (line.unit 1).state = .vacant ∧ ((faultedAt .complete).unit 1).state = .faulted ∧
      ((faultedAt .complete).unit 1).fault.isSome = true := by decide

/-- Station 1 at work on pallet 7, with HOME off. -/
def working (st : UnitState) (t1 t2 : Option Nat) (p : OverrunPolicy) : State :=
  (setImage 1 (fun i => { i with home := false }) stocked).modUnit 1 fun u => { u with
    state := st, stage1 := t1, stage2 := t2, config := { u.config with policy := p }
    operation :=
      some { pallet := 7, program := 12, start := 0, doneSeenOff := true, result := none, interruptTaken := false } }

theorem witness_SupervisionByItsStages :
    let first := working .working (some 0) none .hold
    let hold := working .late none (some 0) .hold
    let abandon := working .late none (some 0) .abandon
    (first.Calm ∧ 1 ≤ first.n ∧ (first.unit 1).operation.isSome = true ∧ (first.unit 1).state = .working ∧
        (first.unit 1).stage1 = some 0) ∧
      (hold.Calm ∧ (hold.unit 1).state = .late ∧ (hold.unit 1).stage2 = some 0 ∧ (hold.unit 1).config.policy = .hold) ∧
      (abandon.Calm ∧ (abandon.unit 1).config.policy = .abandon ∧ (abandon.image 1).home = false) ∧
      (hold.unit 1).stage1 ≠ some 0 ∧ ((working .working (some 1) none .hold).unit 1).stage1 ≠ some 0 ∧
      (first.unit 1).stage2 ≠ some 0 := by decide

theorem witness_RestartKeepsTheRegisterAndEndsTheWork :
    let work := working .working (some 1) none .hold
    part.Free ∧ part.isq.line = .unconfigured ∧ line.Free ∧ line.isq.line = .held ∧ (lineIn .halted none line).Free ∧
      (lineIn .running (some .wait) line).Free ∧ (lineIn .running (some .release) line).Free ∧
      (work.Free ∧ 1 ≤ work.n ∧ (work.unit 1).state = .working) ∧
      ((faultedAt .operation).Free ∧ ((faultedAt .operation).unit 1).fault.isSome = true) ∧
      line.mgn.motion = .atRest := by decide

/-- Station 1 in a state, with a fault of a resume where it is FAULTED, its input image as given. -/
def stationWith (st : UnitState) (resume : Resume) (f : InputImage → InputImage) : State :=
  (setImage 1 f (faultedAt resume)).modUnit 1 fun u => { u with
    state := st, clampWatch := true, fault := if st = .faulted then u.fault else none }

/-- The changes of a station's inputs, clause by clause; the held image is the new one. -/
theorem witness_SeatedDecisionByItsOrders_inputs :
    let rest := restImage 1
    let done := fun i : InputImage => { i with done := true }
    let away := fun i : InputImage => { i with home := false }
    let w := stationWith .working .operation
    let opened := { (w id).unit 1 with restartWait := false }
    (1 ≤ 1 ∧ (line.unit 2).config.kind = .idle ∧ line.image 2 = restImage 2) ∧
      ((w done).image 1 = { rest with done := true } ∧ ((w done).unit 1).state = .working ∧
        ((w done).unit 1).config.kind ≠ .idle ∧ ((w done).unit 1).operation.any Operation.doneSeenOff = true ∧
        ((w done).unit 1).restartWait = false ∧ rest.home = true) ∧
      ((w id).image 1 = rest ∧ rest.done = false ∧ opened.operation.isSome = true) ∧
      ((w away).image 1 = { rest with home := false }) ∧
      ((stationWith .complete .operation done).image 1 = { rest with done := true } ∧
        ((stationWith .complete .operation done).unit 1).state = .complete) ∧
      (((stationWith .faulted .operation done).unit 1).state = .faulted ∧
        ((stationWith .faulted .operation done).unit 1).fault.any (fun f => f.resume = .operation) = true) ∧
      (((stationWith .vacant .operation away).unit 1).state = .vacant ∧
        ((stationWith .vacant .operation away).image 1).home = false ∧
        (stationWith .vacant .operation away).isq.line = .held ∧
        (lineIn .running (some .lift) (stationWith .vacant .operation away)).isq.phase = some .lift) ∧
      (((stationWith .faulted .complete away).unit 1).fault.any (fun f => f.resume = .complete) = true) ∧
      (((stationWith .abandoning .operation id).unit 1).state = .abandoning ∧
        ((stationWith .abandoning .operation id).unit 1).operation.any (fun o => o.result.isNone) = true ∧
        ((stationWith .abandoning .operation id).image 1).home = true) ∧
      ((stationWith .vacant .operation fun i => { i with flt := true }).image 1).flt = true ∧
      (((stationWith .vacant .operation fun i => { i with clamped := false }).image 1).clamped = false ∧
        ((stationWith .vacant .operation id).unit 1).clampWatch = true ∧
        (stationWith .vacant .operation id).palletAt 1 = some 7) := by decide

/-- The locator of position 0 with a channel. -/
def locator0 (c : Channel) (s : State) : State := s.modChannel (.locator 0) fun _ => c

/-- A pulse of a side with its timer run out. -/
def spent (x : Side) : Pulse := { side := x, timer := 0, requesters := [.position] }

theorem witness_PulsesStartAndEnd :
    let idle := line
    let same := locator0 { pulse := some (spent .engage), commanded := some .engage, pending := none } line
    let queued := locator0
      { pulse := some (spent .engage), commanded := some .engage
        pending := some { side := .disengage, requesters := [.position] } } line
    let stagger := { line with sct := { line.sct with clampWait := some { timer := 0, stations := [2] } } }
    let top := { stocked with sct := { stocked.sct with held := true, topUpTimer := some 0 } }
    let topB := { stocked with sct := { stocked.sct with topUp := .stagger 0 } }
    (idle.openChannel (.locator 0)).any (fun c => c.pulse.isNone) = true ∧
      (same.openChannel (.locator 0)).any (fun c => c.pulse == some (spent .engage) && c.pending.isNone) = true ∧
      (queued.openChannel (.locator 0)).any (fun c => c.pending.isSome) = true ∧
      (same.Calm ∧ (spent .engage).timer = 0 ∧ (spent .engage).toppedUp = false ∧ same.sct.topUp ≠ .groupB) ∧
      (stagger.Calm ∧ stagger.sct.clampWait = some { timer := 0, stations := [2] }) ∧
      (top.Calm ∧ top.sct.held = true ∧ top.sct.topUpTimer = some 0 ∧ top.sct.settings.stagger ≠ 0 ∧
        top.isOccupied 1 = true ∧ (top.unit 1).config.group = some .a ∧
        (top.channel (.clamp 1)).any (fun c => c.pulse.isNone) = true) ∧
      topB.Calm ∧ topB.sct.topUp = .stagger 0 := by decide

/-- A topped-up pulse of station 1 at its end, the held interval open or closed. -/
def toppedAt (held clamped : Bool) (g : Group) : State :=
  let s := (setImage 1 (fun i => { i with clamped := clamped }) stocked).modChannel (.clamp 1) fun _ =>
    { pulse := some { side := .engage, timer := 0, requesters := [.position, .topUp g] }, commanded := some .engage
      pending := none }
  { s with sct := { s.sct with held := held, topUp := .groupB } }

theorem witness_PulsesStartAndEnd_toppedUp :
    (∀ g ∈ [Group.a, .b],
        (toppedAt true false g).Calm ∧ (toppedAt true false g).sct.held = true ∧ (toppedAt true false g).palletAt 1 ≠ none ∧
          ((toppedAt true false g).image 1).clamped = false ∧
          ((toppedAt true false g).channel (.clamp 1)).any (fun c => c.pulse.any fun p =>
            p.timer = 0 ∧ p.requesters.contains (.topUp g)) = true) ∧
      ((toppedAt false false .b).Calm ∧ (toppedAt false false .b).sct.held = false) ∧
      ((toppedAt true true .b).Calm ∧ ((toppedAt true true .b).image 1).clamped = true ∧
        (toppedAt true true .b).sct.topUp = .groupB) ∧
      (line.sct.topUp ≠ .groupB ∧ ∀ ch ∈ line.sct.clamps, ch.pulse = none ∧ ch.pending = none) := by decide

/-- The end of a group B pulse: CLAMP_LOSS with CLAMPED off, and the timer loaded again (R108). -/
theorem test_pulseEnd_toppedUp :
    let t := after (.pulseEnd (.clamp 1)) (toppedAt true false .b)
    (t.unit 1).state = .faulted ∧ (t.unit 1).fault.map FaultRecord.cause = some .clampLoss ∧ t.sct.topUp = .idle ∧
      t.sct.topUpTimer = some 60000 ∧ (t.channel (.clamp 1)).any (fun c => c.pulse.isNone) = true := by decide

theorem witness_PulsesStartAndEnd_timeouts :
    let open_ (l : LoadState) (id : RequestId) (n : Nat) : State := { line with
      fdu := { line.fdu with state := l }
      sct := { line.sct with requests := [{ id := id, timer := n }] } }
    let faulted := (faultedAt .operation).modUnit 1 fun u => { u with
      fault := u.fault.map fun f => { f with reclamp := true } }
    let re := { faulted with sct := { faulted.sct with requests := [{ id := .reclamp 1, timer := 0 }] } }
    ((open_ .seating .seatLoad 1).Calm ∧ ∀ r ∈ (open_ .seating .seatLoad 1).sct.requests, r.timer ≠ 0) ∧
      ((open_ .seating .seatLoad 0).Calm ∧ (open_ .seating .seatLoad 0).fdu.state = .seating ∧
        ({ id := .seatLoad, timer := 0 } : PositionRequest) ∈ (open_ .seating .seatLoad 0).sct.requests ∧
        (open_ .seating .seatLoad 0).prg.disagreement = none ∧
        (open_ .seating .seatLoad 0).sct.requests.filter (·.id ≠ .seatLoad) = []) ∧
      ((open_ .feeding .releaseLoad 0).Calm ∧ (open_ .feeding .releaseLoad 0).fdu.state = .feeding ∧
        (open_ .feeding .releaseLoad 0).sct.requests.filter (·.id ≠ .releaseLoad) = []) ∧
      re.Calm ∧ 1 ≤ re.n ∧ (re.unit 1).state = .faulted ∧
      ({ id := .reclamp 1, timer := 0 } : PositionRequest) ∈ re.sct.requests ∧
      (re.unit 1).fault.any (fun f => f.reclamp) = true := by decide

/-- The line in a phase with a command that is met, or not, at position 1. -/
def commandIn (ph : Phase) (p : Nat) : State :=
  { lineIn .running (some ph) line with sct := { line.sct with
    command := some { phase := ph, positions := [p], timer := 5 } } }

theorem witness_PhasesFollowInOrder :
    let lift (up down : Bool) (m : LiftMove) (ph : Phase) : State :=
      let l := setImage 30 (fun i => { i with liftUp := up, liftDown := down }) (lineIn .running (some ph) line)
      { l with
        sct := { l.sct with movement := some { move := m, timer := 5 } }
        isq := { l.isq with released := true, withdrawn := true } }
    let out := setImage 1 (fun i => { i with locIn := false, locOut := true, clamped := false, unclamped := true })
    (((line.cam.bank .a).state = .armed ∧ (line.cam.bank BankId.a.other).state ≠ .armed) ∧
        ∀ id ∈ [BankId.a, .b], (openBank.cam.bank id).state ≠ .armed) ∧
      (part.mgn.drive ≠ .ready ∧ line.mgn.drive = .ready) ∧
      (line.isq.course = .forward ∧ (lineIn .running (some .advance) line).isq.line = .running ∧ 24 ≤ line.stu.length) ∧
      (line.verifyFailures = [] ∧ stocked.verifyFailures = [1, 3]) ∧
      ((commandIn .locate 1).sct.command.isSome = true ∧ (commandIn .locate 1).endsWith .locate 1 = true ∧
        (commandIn .clamp 1).endsWith .clamp 1 = true ∧ (commandIn .release 1).endsWith .release 1 = false ∧
        (out (commandIn .release 1)).endsWith .release 1 = true ∧
        (out (commandIn .withdraw 1)).endsWith .withdraw 1 = true) ∧
      ((lift true false .raise .lift).lineImage.liftUp = true ∧ (lift true false .raise .lift).isq.phase = some .lift ∧
        (lift false true .lower .lower).lineImage.liftDown = true ∧
        (lift false false .lower .lower).lineImage.liftUp = false ∧
        (lift false true .raise .lift).sct.movement = some { move := .raise, timer := 5 }) := by decide

theorem witness_PlanCoversTheDistance :
    1 ≤ worked.acceleration ∧ worked.acceleration ≤ worked.velocity ∧ 4294967295 < 4294967296 := by decide

theorem witness_MotionTickMovesTheBar :
    let f : Feedback := { ready := true, fault := false, position := 40 }
    let rest := { readyLine with isq := line.isq, mgn := { line.mgn with received := some f } }
    let p := { makePlan worked .advance 0 20000 20000 with sent := 1 }
    let q : QuickStop := { direction := .advance, ticks := 0, trial := none, enableOff := true }
    let moving := { lineIn .running (some .advance) line with mgn := { line.mgn with
      settings := worked, motion := .moving, plan := some p, received := some f, enable := true, velocity := 5
      sent := some { sequence := 0, enable := true, position := 5 } } }
    let lost : State := { moving with mgn := { moving.mgn with received := none, missed := 2 } }
    let back : State := { rest with mgn := { rest.mgn with drive := .lost } }
    let stopping : State := { moving with mgn := { moving.mgn with
      motion := .stopping, plan := none, quick := some q, velocity := 15 } }
    let trial : State := { line with
      mgn := { line.mgn with motion := .trial, plan := some p, received := some { f with fault := true } } }
    (rest.Calm ∧ rest.isq.line = .held ∧ rest.fdu.state ≠ .empty ∧ rest.mgn.motion = .atRest ∧
        rest.mgn.received = some f ∧ f.drive = rest.mgn.drive) ∧
      (moving.Calm ∧ moving.mgn.motion = .moving ∧ moving.isq.line = .running ∧ f.drive = moving.mgn.drive ∧
        moving.mgn.plan = some p ∧ p.sent + 1 < p.total) ∧
      (back.Calm ∧ f.drive ≠ back.mgn.drive ∧ f.drive = .ready ∧ back.mgn.motion = .atRest) ∧
      (lost.Calm ∧ min (lost.mgn.missed + 1) 3 = 3 ∧ lost.mgn.drive ≠ .lost) ∧
      (stopping.Calm ∧ stopping.mgn.quick = some q ∧ stopping.mgn.velocity = stopping.mgn.settings.quickStop + 5 ∧
        q.trial = none) ∧
      (trial.Calm ∧ trial.mgn.motion = .trial ∧ trial.isq.line = .held ∧ trial.mgn.drive ≠ .fault) ∧
      moving.mgn.sent.any (fun sp => sp.enable) = true ∧ rest.mgn.sent = none := by decide

/-- R112: a feedback frame of position -1 with its checksum, for the setpoint of sequence 3. -/
def feedbackBytes : List Byte := [0xA6, 1, 0xFF, 0xFF, 0xFF, 0xFF, 3, 0x5A]

theorem witness_MotionTickMovesTheBar_feedback :
    let s := { line with mgn := { line.mgn with sent := some { sequence := 3, enable := false, position := 0 } } }
    s.Calm ∧ s.clu.overflow.first = none ∧ (feedbackBytes.map BitVec.toNat).sum % 256 = 0 ∧
      (3 : Byte).toNat = 3 ∧ s.mgn.received = none ∧ feedbackBytes.length = 8 ∧
      (feedbackBytes.take 7).length ≠ 8 ∧ line.mgn.sent = none ∧ (3 : Byte).toNat ≠ 4 := by decide

/-- A RegisterSound and EquipmentSound state that a step changes. -/
theorem witness_EveryStepKeepsThePartSound :
    ∃ s t, State.RegisterSound s ∧ State.EquipmentSound s ∧ step s = .next t ∧ t.prg ≠ s.prg := by
  refine ⟨{ line with pending := [.palletEnrolTail 1 7] }, _, ?_, ?_, rfl, by decide⟩
  · exact ⟨by decide, by decide, by decide, by decide, by decide, by decide, by decide, by decide,
      fun h => absurd h (by decide), by decide, (by decide : line.slot 0 = .empty), by decide⟩
  · refine ⟨?_, fun h => absurd h (by decide), by decide, by decide, by decide, by decide⟩
    intro u hu
    have h : u = StationUnit.initial := by
      have : ∀ v ∈ line.stu, v = StationUnit.initial := by decide
      exact this u hu
    subst h
    exact ⟨by decide, by decide, by decide, by decide, by decide, by decide⟩

/-- The bank of the worked hand-over with one point of a given action. -/
def onePoint (a : CamAction) : State :=
  { line with cam := { line.cam with bankB := { state := .active, points := [⟨20000, .advance, a⟩], underTrial := false } } }

/-- Its open stroke record. -/
def liveStroke : StrokeRecord := { direction := .advance, live := true, bank := some .b, previous := some 19580, fired := [] }

theorem witness_CamPointsFireByTheirAction :
    let s (a : CamAction) := { onePoint a with cam := { (onePoint a).cam with stroke := some liveStroke } }
    let trialStroke := { liveStroke with live := false }
    let k : TrialRecord :=
      { bank := .b, wouldApply := 0, checkPass := 0, checkFail := 0, notEvaluated := 0, fired := [] }
    let p := makePlan worked .advance 0 20000 20000
    let tr (sent : Nat) : State := { onePoint .mark with
      cam := { (onePoint .mark).cam with stroke := some trialStroke, trial := some k }
      mgn := { line.mgn with settings := worked, motion := .trial, plan := some { p with sent := sent } } }
    (s (.auxOn 2)).crossings liveStroke 20000 = [(0, ⟨20000, .advance, .auxOn 2⟩)] ∧
      (s (.auxOff 2)).crossings liveStroke 20025 = [(0, ⟨20000, .advance, .auxOff 2⟩)] ∧
      (s (.check 2 false)).auxInput 2 = false ∧ (s (.check 2 true)).auxInput 2 ≠ true ∧
      (s (.check 2 true)).crossings liveStroke 20025 = [(0, ⟨20000, .advance, .check 2 true⟩)] ∧
      (s .mark).crossings liveStroke 20025 = [(0, ⟨20000, .advance, .mark⟩)] ∧
      (liveStroke.bank = some .b ∧ liveStroke.previous = some 19580 ∧ liveStroke.live = true) ∧
      (line.cam.stroke = none ∧ line.cam.trial = none) ∧
      ((tr 0).cam.trial = some k ∧ (tr 0).cam.stroke = some trialStroke ∧ trialStroke.live = false) ∧
      ((tr 0).mgn.plan.any (fun x => x.sent + 1 < x.total) = true ∧
        (tr (p.total - 1)).mgn.plan.any (fun x => x.total ≤ x.sent + 1 ∧ x.direction = .advance) = true) := by decide

/-- Position 0 empty under an out locator with a pallet at the gate. -/
def gateLine : State :=
  let l := setImage 30 (fun i => { i with head := true })
    (setImage 0 (fun i => { i with locIn := false, locOut := true })
      (locator0 { pulse := none, commanded := some .disengage, pending := none } line))
  { l with prg := { l.prg with queue := [7, 8], records := [pallet 7 2 none, pallet 8 1 none] } }

/-- The feed of pallet 7 in a state. -/
def feeding (st : LoadState) : State :=
  { gateLine with fdu := { gateLine.fdu with
    state := st, gate := true, feedTimer := some 0, readTimer := some 0, expected := some 7, mode := some .gate } }

/-- Position 0 waits for a block that does not come. -/
def loadWaitOver (p : LoadPolicy) : State :=
  { waitingAtLoad false with fdu := { (waitingAtLoad false).fdu with
    loadWait := some 0, settings := { (waitingAtLoad false).fdu.settings with policy := p } } }

theorem witness_FeedCommandsMovePositionZero :
    (gateLine.Calm ∧ gateLine.feedMode = some .gate ∧ gateLine.loadLocatorOut = true) ∧
      (line.Calm ∧ line.feedMode = none) ∧
      ((feeding .feeding).Calm ∧ (feeding .feeding).isq.line = .held ∧ (feeding .feeding).fdu.gate = true ∧
        (feeding .feeding).fdu.feedTimer = some 0) ∧
      ((feeding .reading).Calm ∧ (feeding .reading).fdu.readTimer = some 0 ∧ (feeding .reading).fdu.expected = some 7 ∧
        (feeding .reading).prg.queue = [7, 8] ∧ (feeding .reading).slot 0 = .empty ∧ (feeding .reading).prg.map ≠ [] ∧
        (feeding .reading).record 7 = some (pallet 7 2 none)) ∧
      ((loadWaitOver .wait).Calm ∧ (loadWaitOver .wait).fdu.state = .awaitingBlock ∧
        (loadWaitOver .wait).fdu.loadWait = some 0 ∧ (loadWaitOver .wait).fdu.settings.policy = .wait) ∧
      (loadWaitOver .runEmpty).Calm ∧ (loadWaitOver .runEmpty).fdu.settings.policy = .runEmpty ∧
      (loadWaitOver .runEmpty).isq.line ≠ .running := by decide

theorem witness_FeedCommandsMovePositionZero_start :
    let out (b : Bool) := setImage 0 (fun i => { i with locIn := !b, locOut := b })
    let idle : Channel := { pulse := none, commanded := some .engage, pending := none }
    let gate := locator0 idle (out false gateLine)
    let met := locator0 idle (out true gateLine)
    let inPlace (seated : Bool) := setImage 0 (fun i => { i with present := true, locIn := seated }) gateLine
    (gate.Calm ∧ gate.feedMode = some .gate ∧ gate.loadLocatorOut = false ∧ (gate.image 0).locIn = true) ∧
      (met.Calm ∧ met.feedMode = some .gate ∧ met.loadLocatorOut = false ∧ (met.image 0).locOut = true ∧
        (met.image 0).locIn = false) ∧
      (∀ b : Bool, (inPlace b).Calm ∧ (inPlace b).feedMode = some .inPlace ∧ ((inPlace b).image 0).locIn = b) ∧
      ((gate.channel (.locator 0)).any fun c => c.pulse.isNone) = true ∧
      (gate.fdu.state = .empty ∧ gate.feedPermit = true ∧ gate.fdu.loadHold = false ∧ gate.nodeLost 0 = false) := by decide

theorem witness_FeedCommandsMovePositionZero_running :
    (∀ ph ∈ [Phase.wait, .locate, .returning],
        (lineIn .running (some ph) (feeding .feeding)).Calm ∧
          (lineIn .running (some ph) (feeding .feeding)).fdu.feedTimer = some 0 ∧
          (lineIn .running (some ph) (feeding .reading)).Calm ∧
          (lineIn .running (some ph) (feeding .reading)).fdu.readTimer = some 0 ∧
          (lineIn .running (some ph) (feeding .reading)).fdu.expected = some 7) ∧
      (let s := lineIn .running (some .wait) (feeding .reading)
       let s := { s with fdu := { s.fdu with expected := none } }
       s.Calm ∧ s.fdu.expected = none ∧ s.fdu.readTimer = some 0) ∧
      ((lineIn .running (some .wait) (loadWaitOver .runEmpty)).Calm ∧
        (lineIn .running (some .wait) (loadWaitOver .runEmpty)).fdu.loadWait = some 0) ∧
      (lineIn .running (some .verify) (loadWaitOver .runEmpty)).Calm := by decide

/-- The feed timer expires in WAIT: FEED FAULT takes the line to HELD (R45, R149). -/
theorem test_feedTimeout_wait :
    let t := after .feedTimeout (lineIn .running (some .wait) (feeding .feeding))
    t.isq.line = .held ∧ t.isq.phase = none ∧ t.fdu.state = .empty ∧ t.fdu.loadHold = true ∧ t.prg.queue = [7, 8] := by
  decide

/-- PRESENT drops in READING, and in AWAITING_BLOCK with the hold set (R146, R149, R151; log 77). -/
theorem test_presentDrop_hold :
    let held (s : State) : State := { s with fdu := { s.fdu with loadHold := true } }
    let drop (s : State) : LoadState × Bool :=
      let t := s.loadInputs { restImage 0 with present := true } (restImage 0)
      (t.fdu.state, t.fdu.loadHold)
    drop (feeding .reading) = (.empty, true) ∧ drop (held (waitingAtLoad false)) = (.awaitingBlock, false) := by decide

theorem witness_CodeFieldsAreJudged :
    let i : InputImage := { InputImage.off with d2 := 2, d1 := 5, d0 := 0, c := 1 }
    let j : InputImage := { InputImage.off with d2 := 2, d1 := 5, d0 := 1, c := 0 }
    9 < ({ i with c := 10 } : InputImage).c ∧ ({ i with c := 2 } : InputImage).c ≠ (3 * 2 + 7 * 5 + 9 * 0) % 10 ∧
      (i.c = (3 * i.d2 + 7 * i.d1 + 9 * i.d0) % 10 ∧ 100 * i.d2 + 10 * i.d1 + i.d0 = 250) ∧
      j.c = (3 * j.d2 + 7 * j.d1 + 9 * j.d0) % 10 ∧ 100 * j.d2 + 10 * j.d1 + j.d0 = 251 := by decide

/-- The reads of position 0 and what they find: the expected pallet, another of the queue, a foreign, a conflict. -/
theorem witness_CodeFieldsAreJudged_resolve :
    let s := feeding .reading
    let none_ := { s with fdu := { s.fdu with expected := none } }
    s.slot 0 = .empty ∧ s.prg.map ≠ [] ∧ (s.fdu.expected = some 7 ∧ s.prg.queue = [7, 8]) ∧
      (none_.fdu.expected = none) ∧ (s.fdu.expected ≠ some 8 ∧ 8 ∉ [7] ∧ 1 < [7].length + 1) ∧
      (9 ∉ s.prg.queue ∧ s.record 9 = none) ∧
      (7 ∉ (stocked.prg.queue) ∧ stocked.record 7 = some (pallet 7 2 (some block)) ∧ stocked.slot 0 = .empty) ∧
      ((waitingAtLoad false).slot 0 ≠ .empty ∧
        ({ (waitingAtLoad false) with fdu := { line.fdu with expected := some 7 } } : State).fdu.expected ≠ none) ∧
      line.sct.requests = [] := by decide

/-- The changes at positions 0 and N+1, and the seat watch. -/
theorem witness_CodeFieldsAreJudged_inputs :
    let on := { restImage 0 with present := true }
    let seated := setImage 0 (fun i => { i with present := true }) (feeding .feeding)
    let level := setImage 0 (fun i => { i with block := true }) readyLine
    let unload (w : Watch) : State := { setImage 3 (fun i => { i with block := true }) stocked with
      prg := { stocked.prg with watch := w } }
    let gone (w : Watch) : State := { stocked with prg := { stocked.prg with watch := w } }
    let out : State := { withPallets [.empty, .empty, .empty, .pallet 7] [pallet 7 2 (some block)] line with
      prg := { (withPallets [.empty, .empty, .empty, .pallet 7] [pallet 7 2 (some block)] line).prg with watch := .present } }
    (seated.fdu.state = .feeding ∧ (seated.image 0).present = true ∧ on.block = false) ∧
      (line.image 0 = restImage 0 ∧ line.fdu.state ≠ .feeding ∧ line.fdu.state ≠ .reading) ∧
      ((feeding .seating).fdu.state = .seating ∧ ((feeding .seating).image 0).present = false) ∧
      (foreignPart.fdu.state = .foreign ∧ foreignPart.slot 0 = .foreign 188 ∧ (foreignPart.image 0).present = false) ∧
      (readyLine.fdu.state = .ready ∧ readyLine.palletAt 0 = some 9 ∧ readyLine.blockAt 0 = none ∧
        (level.image 0).block = true ∧ readyLine.prg.disagreement = none) ∧
      ((unload .idle).prg.watch = .idle ∧ ((unload .expecting).image 3).block = true ∧ 3 = stocked.n + 1) ∧
      ((gone .phantom).prg.watch = .phantom ∧ ((gone .phantom).image 3).block = false ∧
        out.unloadPallet = some (pallet 7 2 (some block)) ∧ out.prg.watch = .present) ∧
      (line.palletAt 1 = none ∧ stocked.palletAt 1 = some 7 ∧ stocked.isq.line = .held) ∧
      ((lineIn .running (some .wait) stocked).palletAt 1 = some 7 ∧ (lineIn .running (some .withdraw) stocked).palletAt 1 =
        some 7 ∧ (haltedIn .returning true false).isq.haltRecord.isSome = true) := by decide

theorem witness_RingScansAndAnswers :
    let pendingScan := { part with rgc := { part.rgc with
      scan := some { sequence := 255, carried := [(30, OutputImage.off)] } } }
    let answering := { pendingScan with rgc := { pendingScan.rgc with
      nodes := [{ addr := 30, state := .answering, image := some (restImage 30), missed := 1, scansMissed := 65535 }] } }
    (part.Calm ∧ part.clu.overflow.first = none ∧ part.rgc.scan = none) ∧
      (pendingScan.Calm ∧ pendingScan.isq.line = .unconfigured ∧ pendingScan.isq.stations = none ∧
        pendingScan.sct.command = none ∧ pendingScan.sct.requests = [] ∧
        pendingScan.rgc.nodes = [Node.initial 30] ∧ (Node.initial 30).state = .pending ∧
        (Node.initial 30).image = none ∧ pendingScan.rgc.scan.isSome = true) ∧
      answering.Calm ∧ answering.rgc.nodes.all (fun nd => nd.missed < 2) = true ∧ ringCrcOk [0, 0, 1] = false ∧
      answering.rgc.scan.map (fun c => c.carried.map Prod.fst) = some [30] := by decide

/-- The body of a frame of a scan of station 1 under sequence 4, its levels HOME, DONE and LOC_IN. -/
def stationFrame : List Byte :=
  let slot : List Byte := [1, 1, 0, 0, 0x43, 0, 0]
  [0x3C, 4, 1, 0] ++ slot ++ [checkByte slot]

/-- A frame of a configured line, and what is not one of the scan. -/
theorem witness_RingScansAndAnswers_frames :
    let s := { stocked with rgc := { stocked.rgc with scan := some { sequence := 4, carried := [(1, OutputImage.off)] } } }
    s.Calm ∧ s.rgc.scan.map Scan.carried = some [(1, OutputImage.off)] ∧ stationFrame.take 4 = [0x3C, 4, 1, 0] ∧
      (stationFrame.drop 4).length = 8 ∧ slotAnswer s.n 1 (stationFrame.drop 4) =
        some { InputImage.off with home := true, done := true, locIn := true } ∧
      s.node 1 =
        some { addr := 1, state := .answering, image := some (restImage 1), missed := 0, scansMissed := 0 } := by decide

/-- The loss of a node and its return, the owners' changes, the waits that are met. -/
theorem witness_RingScansAndAnswers_nodes :
    let nd (st : NodeState) (m : Nat) : Node :=
      { addr := 1, state := st, image := some (restImage 1), missed := m, scansMissed := m }
    let of (x : Node) : State := { stocked with rgc := { stocked.rgc with nodes := [x] } }
    let waits (l : LoadState) (id : RequestId) : State := { line with
      fdu := { line.fdu with state := l }, sct := { line.sct with requests := [{ id := id, timer := 5 }] } }
    ((of (nd .answering 2)).node 1 = some (nd .answering 2) ∧ (of (nd .answering 1)).node 1 = some (nd .answering 1) ∧
        line.node 24 = none) ∧
      ((lineIn .halted none line).isq.line = .halted ∧ (lineIn .running (some .returning) line).isq.phase = some .returning) ∧
      ((feeding .feeding).fdu.gate = true ∧ (feeding .seating).fdu.state = .seating ∧
        (feeding .reading).fdu.state = .reading ∧ line.fdu.state = .empty) ∧
      ((nd .lost 3).image.isSome = true ∧ (Node.initial 3).image = none ∧ 3 = line.n + 1) ∧
      ((waits .seating .seatLoad).sct.requests = [{ id := .seatLoad, timer := 5 }] ∧
        ((waits .seating .seatLoad).image 0).locIn = true ∧
        (waits .feeding .releaseLoad).fdu.state = .feeding) ∧
      ((faultedAt .vacant).unit 1).fault.isSome = true := by decide

/-- RESTART in HALTED, with a feed in hand, and from the request queue. -/
theorem witness_Restart_halted_feed_queue :
    let halted (n : Nat) : State := let l := haltedIn .locate true false
      { l with isq := { l.isq with
        haltRecord := l.isq.haltRecord.map fun r => { r with secondary := List.replicate n (.stop, []) } } }
    let waits := { line with clu := { line.clu with
      replySlot := some aReply, requestQueue := [Request.restart.frame 5, Request.hold.frame 6] } }
    ((halted 2).Free ∧ (halted 2).isq.line = .halted ∧
        (halted 2).isq.haltRecord.any (fun r => r.secondary.length = 2) = true) ∧
      ((halted 3).Free ∧ (halted 3).isq.haltRecord.any (fun r => r.secondary.length = 3) = true) ∧
      (∀ st ∈ [LoadState.feeding, .seating, .reading],
        let s := setImage 30 (fun i => { i with head := false }) (feeding st)
        s.Free ∧ s.fdu.state = st ∧ (s.image 0).present = false ∧ s.lineImage.head = false ∧ s.prg.queue ≠ []) ∧
      (line.Free ∧ line.fdu.state = .empty ∧ (line.image 0).present = false ∧ line.prg.queue = []) ∧
      ((waitingAtLoad false).Free ∧ (waitingAtLoad false).fdu.state = .awaitingBlock ∧ readyLine.Free ∧
        readyLine.fdu.state = .ready ∧ foreignPart.Free ∧ foreignPart.fdu.state = .foreign) ∧
      waits.inReset = false ∧ waits.clu.transmitting.isSome = true ∧ waits.clu.replySlot = some aReply ∧
      waits.clu.busyList = [] ∧
      waits.clu.requestQueue = Request.restart.frame 5 :: [Request.hold.frame 6] := by decide

/-- R56, R109: RELEASE cancels a group B CLAMP pending at a station outside its set; another requester's stays (R96). -/
theorem test_release_cancels_groupB :
    let at1 (l : List Requester) : State := line.modChannel (.clamp 1) fun _ =>
      { pulse := some { side := .disengage, timer := 5, requesters := [.position] }, commanded := some .disengage
        pending := some { side := .engage, requesters := l } }
    let pending (s : State) : Option (List Requester) :=
      ((s.openCommand .release).channel (.clamp 1)).bind fun ch => ch.pending.map fun q => q.requesters
    pending (at1 [.topUp .b]) = none ∧ pending (at1 [.placedPallet, .topUp .b]) = some [.placedPallet] := by decide

/-- Table 6-1: a setpoint at -2 µm with the enable on, sequence 7. -/
theorem test_setpoint_bytes :
    ({ sequence := 7, enable := true, position := -2 } : Setpoint).bytes =
      [0x5A, 1, 0xFF, 0xFF, 0xFF, 0xFE, 7, 0xA3] := by decide

/-- R175, Table 10-6: NODE LOST of node 5 with its common header, before the CRC. -/
theorem test_report_bytes :
    ({ report := .nodeLost 5, time := 0x01020304, indexCount := 6 } : QueuedReport).bytes.take 14 =
      [0xA5, 10, 0xAF, 0, 0, 1, 2, 3, 4, 0, 0, 0, 6, 5] := by decide

/-- R183: the frame of a scan of station 1 with START and LOCATE on and program 5, before the CRC. -/
theorem test_ringFrame_bytes :
    let o := { OutputImage.off with start := true, locate := true, program := 5 }
    let s := { line with rgc := { line.rgc with scan := some { sequence := 4, carried := [(1, o)] } } }
    s.ringFrame.map (List.take 12) = some [0x3C, 4, 1, 0, 1, 0, 0x09, 5, 0, 0, 0, 241] := by decide

/-- Kinds outside 01h..3Fh and within it, and a CRC that does not match. -/
theorem witness_FrameReceived_judged :
    ((0 : Byte).toNat = 0 ∧ 0x40 ≤ (0x40 : Byte).toNat ∧ 1 ≤ (1 : Byte).toNat ∧ (0x3F : Byte).toNat ≤ 0x3F) ∧
      (0 : Byte) ++ (0 : Byte) ≠ crc16 [0, 1, 1] ∧ crc16 [0, 1, 1] = (0xEF : Byte) ++ (0x8C : Byte) := by
  simp [crc16, crcByte, crcShift]

/-- A framer in each of its states. -/
theorem witness_FramesAreAbandoned_table :
    let at1 (f : Framer) : State := withClu (fun c => { c with framer := f }) part
    ∀ f ∈ [Framer.hunt, .length, .kind 240, .tag 0 1, .tag 1 1, .payload 2 1 1 [], .payload 1 1 1 [], .crcHigh 0 1 1 [],
        .crcLow 0 1 1 [] 0],
      (at1 f).Calm ∧ (at1 f).clu.overflow.first = none ∧ (at1 f).clu.breakSeen = false ∧ (at1 f).clu.framer = f := by
  decide

/-- Banks that are refused: ACTIVE, ARMED, OPEN with a point at fault; the two check failures before them. -/
theorem witness_CamArmAndDisarm_refused :
    let one (b : Bank) : State := { line with cam := { line.cam with bankA := b } }
    let high : Bank := { Bank.initial with points := [⟨line.mgn.settings.stroke + 1, .advance, .mark⟩] }
    ((one { Bank.initial with state := .active }).Free ∧ line.cam.bankA.state = .armed) ∧
      ((one high).Free ∧ (one high).cam.bankA.state = .open_ ∧ (one high).cam.bankB.state ≠ .armed ∧
        (one high).cam.bankA.fault (one high).mgn.settings.stroke = some (0, .aboveS)) ∧
      (part.Free ∧ part.isq.line = .unconfigured) ∧ line.isq.line ≠ .unconfigured ∧ 1 < (2 : Byte).toNat := by decide

/-- R131: the directions are judged apart, equal positions are an ORDER fault, a point above S is ABOVE_S. -/
theorem test_bankFault :
    let bank (l : List CamPoint) : Bank := { Bank.initial with points := l }
    (bank [⟨500, .advance, .mark⟩, ⟨400, .returning, .mark⟩, ⟨600, .advance, .mark⟩]).fault 1000 = none ∧
      (bank [⟨500, .advance, .mark⟩, ⟨700, .returning, .mark⟩, ⟨500, .advance, .mark⟩]).fault 1000 = some (2, .order) ∧
      (bank [⟨1000, .advance, .mark⟩, ⟨1001, .returning, .mark⟩]).fault 1000 = some (1, .aboveS) ∧
      (bank []).fault 1000 = none := by decide

/-- The refusals of TRIAL. -/
theorem witness_TrialStarts_refused :
    let bad : State := { line with cam := { line.cam with
      bankA := { Bank.initial with points := [⟨line.mgn.settings.stroke + 1, .advance, .mark⟩] } } }
    let away := { line with mgn := { line.mgn with commanded := 5 } }
    (part.Free ∧ part.isq.line ≠ .held) ∧ (line.Free ∧ line.isq.line = .held ∧ line.cam.trial = none) ∧
      1 < (2 : Byte).toNat ∧ (away.Free ∧ away.barHome = false) ∧
      (bad.Free ∧ bad.barHome = true ∧ bad.sct.liftState = .down ∧ bad.nodeLost 30 = false ∧
        bad.cam.bankA.state = .open_ ∧ bad.cam.bankA.fault bad.mgn.settings.stroke = some (0, .aboveS)) := by decide

/-- A trial in HELD: above Q, at Q, and already ramping down. -/
theorem witness_StopByLineState_trial :
    let trial := after (.trial 1 0) line
    let free : State := { trial with clu := { trial.clu with replySlot := none } }
    let at1 (m : Motion) (v : Nat) : State := { free with mgn := { free.mgn with motion := m, velocity := v } }
    let q := line.mgn.settings.quickStop
    (at1 .trial q).Free ∧ free.isq.line = .held ∧ free.cam.trial.isSome = true ∧ free.mgn.plan.isSome = true ∧
      free.mgn.motion = .trial ∧ (at1 .trial (q + 1)).mgn.settings.quickStop < q + 1 ∧
      (at1 .stopping q).mgn.motion = .stopping ∧ (at1 .stopping q).Free := by decide

/-- The line in ADVANCE at 400,000 µm, as section 9.4 has it at its STOP. -/
def advancing (m : Motion) (v : Nat) : State :=
  { lineIn .running (some .advance) line with mgn := { line.mgn with
    settings := worked, motion := m, velocity := v, commanded := 400000, enable := true
    plan := some { makePlan worked .advance 1000 650000 649000 with sent := 452 } } }

/-- The halts of an index: by motion, by line state, with room for a secondary cause and without, with valve work open. -/
theorem witness_StopByLineState_halts :
    let secondary (n : Nat) : State := let l := haltedIn .locate true false
      { l with isq := { l.isq with
        haltRecord := l.isq.haltRecord.map fun r => { r with secondary := List.replicate n (.seatLoss, [1]) } } }
    let stopping : State := { advancing .stopping 15 with mgn := { (advancing .stopping 15).mgn with
      plan := none, quick := some { direction := .advance, ticks := 0, enableOff := false, trial := none } } }
    let works (k : Option PhaseCommand) (m : Option Movement) : State :=
      { lineIn .running (some .lift) line with sct := { line.sct with
        command := k, movement := m
        lift := { pulse := none, commanded := none, pending := some { side := .engage, requesters := [.lift, .position] } }
        locators := line.sct.locators.map fun c =>
          { c with pending := some { side := .engage, requesters := [.phase .locate] } } } }
    (∀ x ∈ [(Motion.moving, 11), (.moving, 10), (.settling, 0), (.atRest, 0)],
        (advancing x.1 x.2).Free ∧ (advancing x.1 x.2).isq.line = .running ∧
          (advancing x.1 x.2).isq.phase = some .advance ∧ (advancing x.1 x.2).mgn.plan.isSome = true ∧
          (advancing x.1 x.2).mgn.settings.quickStop = 10) ∧
      (stopping.mgn.motion = .stopping ∧ stopping.isq.phase.isSome = true) ∧
      (∀ n ∈ [2, 3], (secondary n).isq.line = .halted ∧
        (secondary n).isq.haltRecord.any (fun r => r.secondary.length = n) = true) ∧
      (line.isq.line = .held ∧ part.isq.line = .unconfigured) ∧
      (let s := works (some { phase := .locate, positions := [1], timer := 5 }) none
       s.sct.command.isSome = true ∧ s.sct.movement = none ∧
         ([Requester.phase .locate].filter (· ≠ .phase .locate)) = []) ∧
      (let s := works none (some { move := .raise, timer := 5 })
       s.sct.command = none ∧ s.sct.movement.isSome = true ∧ s.sct.liftState ≠ .unknown ∧
         ([Requester.lift, .position].filter (· ≠ .lift)) ≠ []) := by decide

/-- Section 9.4: the STOP at 400,000 halts with motion STOPPING; LINE STATE and HALTED are queued (R51, R64, R154). -/
theorem test_stop_at_400000 :
    let t := after (.stop 2) (advancing .moving 1200)
    let r : HaltRecord := { cause := .stop, phase := .advance, bar := 400000, stopping := true, positions := [],
                            secondary := [], indexCount := 0 }
    t.isq.haltRecord = some r ∧ t.mgn.motion = .stopping ∧ t.mgn.velocity = 1200 ∧ t.mgn.enable = true ∧
      (t.clu.reports.map QueuedReport.report).drop (line.clu.reports.length) =
        [.lineState .halted none .halt, .halted r] := by decide

/-- A STOP at the start of a trial, with the velocity still 0, ends it at once as STOPPED (R123, R140). -/
theorem test_stop_ends_trial :
    let trial := after (.trial 1 0) line
    let t := after (.stop 2) { trial with clu := { trial.clu with replySlot := none } }
    t.cam.trial = none ∧ t.mgn.motion = .atRest ∧ t.isq.line = .held ∧ answer t = some (.ok []) := by decide

/-- The expiries outside RUNNING, and before their time. -/
theorem witness_FeedCommandsMovePositionZero_halted :
    let late := lineIn .halted none (feeding .feeding)
    let read := lineIn .halted none (feeding .reading)
    let unread := { read with fdu := { read.fdu with expected := none } }
    (late.Calm ∧ late.isq.line = .halted ∧ late.fdu.state = .feeding ∧ late.fdu.gate = true ∧
        late.fdu.feedTimer = some 0) ∧
      (unread.Calm ∧ unread.fdu.state = .reading ∧ unread.fdu.readTimer = some 0 ∧ unread.fdu.expected = none) ∧
      (line.Calm ∧ line.fdu.state ≠ .feeding ∧ line.fdu.state ≠ .reading ∧ line.fdu.state ≠ .awaitingBlock) ∧
      (waitingAtLoad false).fdu.loadWait ≠ some 0 := by decide

/-- Stage 2 under ABANDON with the tool at home. -/
theorem witness_SupervisionByItsStages_home :
    let s := setImage 1 (fun i => { i with home := true }) (working .late none (some 0) .abandon)
    s.Calm ∧ 1 ≤ s.n ∧ (s.unit 1).operation.isSome = true ∧ (s.unit 1).state = .late ∧ (s.unit 1).stage2 = some 0 ∧
      (s.unit 1).config.policy = .abandon ∧ (s.image 1).home = true := by decide

/-- The refusals of CAM WRITE, with the boundaries of the start index and of the 32 points. -/
theorem witness_CamWriteWritesTheBank_refused :
    let a (st : BankState) (trial : Bool) : State := { line with cam := { line.cam with
      bankA := { state := st, points := [⟨5, .advance, .mark⟩], underTrial := trial } } }
    let mark : PointFields := ⟨1200000, 0, 3, none, none⟩
    (part.Free ∧ part.isq.line = .unconfigured ∧ (Request.camWrite 0 0 [mark]).payload.length ≤ 240) ∧
      (line.Free ∧ line.isq.line ≠ .unconfigured ∧ 1 < (2 : Byte).toNat ∧
        camPoint { mark with position := 1200001 } = none ∧ camPoint { mark with stroke := 2 } = none ∧
        camPoint { mark with k := some 0 } = none ∧ camPoint ⟨0, 0, 0, some 8, none⟩ = none ∧
        camPoint ⟨0, 0, 2, some 0, none⟩ = none) ∧
      (camPoint mark = some ⟨1200000, .advance, .mark⟩ ∧ camPoint ⟨0, 1, 1, some 7, none⟩ = some ⟨0, .returning, .auxOff 7⟩) ∧
      ((a .open_ false).Free ∧ ((a .open_ false).cam.bank .a).points.length < (2 : Byte).toNat ∧
        ¬((a .open_ false).cam.bank .a).points.length < (1 : Byte).toNat) ∧
      (32 < (1 : Byte).toNat + (List.replicate 32 mark).length ∧ ¬32 < (1 : Byte).toNat + (List.replicate 31 mark).length) ∧
      ((a .active false).Free ∧ ((a .active false).cam.bank .a).state = .active) ∧
      ((a .armed false).Free ∧ ((a .armed false).cam.bank .a).state = .armed) ∧
      ((a .open_ true).Free ∧ ((a .open_ true).cam.bank .a).state = .open_ ∧ ((a .open_ true).cam.bank .a).underTrial = true) := by decide

/-- A level byte 2 in a point is no field of CAM WRITE. -/
theorem witness_CamWriteWritesTheBank_levelByte :
    Request.parse 0x0A [0, 0, 1, 0, 0, 0, 5, 0, 2, 1, 3, 1, 2] = .error .badField := rfl

/-- The stocked line with n more records. -/
def recorded (n : Nat) (s : State) : State :=
  { s with prg := { s.prg with records := s.prg.records ++ (List.range n).map fun i => pallet (i + 100) 0 none } }

/-- The stocked line with a queue of n pallets and capacity c, an index open or not. -/
def queued (n c : Nat) (opened : Bool) : State :=
  { stocked with prg := { stocked.prg with queue := (List.range n).map (· + 100), capacity := c, openIndex := opened } }

/-- The refusals of PALLET ENROL at TAIL: 63 and 64 records, and C reached by the queue or by the reservation. -/
theorem witness_EnrolTailJoinsTheQueue_refused :
    (part.Free ∧ part.isq.line = .unconfigured) ∧ stocked.isq.line ≠ .unconfigured ∧
      (¬(1 ≤ (0 : Byte).toNat) ∧ ¬((251 : Byte).toNat ≤ 250)) ∧
      (stocked.Free ∧ stocked.record 7 ≠ none) ∧ (foreignPart.Free ∧ foreignPart.foreignId = some 188) ∧
      ((recorded 61 stocked).Free ∧ 64 ≤ (recorded 61 stocked).prg.records.length ∧
        (recorded 61 stocked).record 50 = none ∧ (recorded 60 stocked).prg.records.length < 64) ∧
      ((queued 2 2 false).Free ∧ (queued 2 2 false).prg.capacity ≤ 2 + (queued 2 2 false).reserved ∧
        (queued 2 2 false).record 50 = none ∧ (queued 2 2 false).prg.records.length < 64) ∧
      ((queued 1 2 true).Free ∧ (queued 1 2 true).prg.capacity ≤ 1 + (queued 1 2 true).reserved) ∧
      ((queued 1 2 false).Free ∧ 1 + (queued 1 2 false).reserved < (queued 1 2 false).prg.capacity) ∧
      ((queued 1 2 true).palletAt 3 = some 250 ∧ (queued 1 2 true).record 250 = some (pallet 250 9 none) ∧
        (queued 1 2 true).prg.inspectionLimit = 0) ∧
      (firstIndex.prg.openIndex = true ∧ firstIndex.palletAt 5 = some 27 ∧ firstIndex.prg.inspectionLimit = 40) ∧
      1 < (2 : Byte).toNat := by decide

/-- The refusals of PALLET ENROL at LOAD. -/
theorem witness_EnrolLoadRegistersTheForeignPallet_refused :
    let known (n : Nat) : State := { recorded n foreignPart with prg := { (recorded n foreignPart).prg with
      records := (recorded n foreignPart).prg.records ++ [pallet 188 1 none] } }
    (part.Free ∧ part.isq.line = .unconfigured) ∧ foreignPart.isq.line ≠ .unconfigured ∧
      (¬(1 ≤ (0 : Byte).toNat) ∧ ¬((251 : Byte).toNat ≤ 250)) ∧
      (stocked.Free ∧ stocked.slot 0 = .empty) ∧
      (foreignPart.Free ∧ foreignPart.slot 0 = .foreign 188 ∧ 188 ≠ (187 : Byte).toNat) ∧
      ((known 0).Free ∧ (known 0).slot 0 = .foreign 188 ∧ (known 0).record 188 ≠ none) ∧
      ((recorded 64 foreignPart).Free ∧ 64 ≤ (recorded 64 foreignPart).prg.records.length ∧
        (recorded 63 foreignPart).prg.records.length < 64) := by decide

/-- No record of 188 among the 63 and the 64. -/
theorem witness_EnrolLoadRegistersTheForeignPallet_full :
    let l (n : Nat) : List Pallet := (List.range n).map fun i => pallet (i + 1) 0 none
    let s (n : Nat) : State := { foreignPart with prg := { foreignPart.prg with records := l n } }
    ((s 64).Free ∧ (s 64).record 188 = none ∧ 64 ≤ (s 64).prg.records.length) ∧
      (s 63).Free ∧ (s 63).record 188 = none ∧ (s 63).prg.records.length < 64 ∧ (s 63).fdu.state = .foreign := by decide

/-- The refusals of PALLET ADMIT. -/
theorem witness_AdmitReturnsThePallet_refused :
    let read : State := { stocked with prg := { stocked.prg with map := [.foreign 1, .empty, .empty, .empty] } }
    (part.Free ∧ part.isq.line = .unconfigured) ∧ (stocked.Free ∧ stocked.isq.line ≠ .unconfigured) ∧
      (¬(1 ≤ (0 : Byte).toNat) ∧ ¬((251 : Byte).toNat ≤ 250)) ∧ stocked.record 2 = none ∧
      (stocked.record 7 ≠ none ∧ stocked.location 7 ≠ .offline) ∧
      (read.Free ∧ read.record 1 ≠ none ∧ read.foreignId = some 1) ∧
      (∀ c ∈ [queued 2 2 false, queued 1 2 true], c.Free ∧ c.record 1 ≠ none ∧ c.location 1 = .offline ∧
        c.foreignId ≠ some 1 ∧ c.prg.capacity ≤ c.prg.queue.length + c.reserved) ∧
      (queued 1 2 false).location 1 = .offline ∧
      (queued 1 2 false).prg.queue.length + (queued 1 2 false).reserved < (queued 1 2 false).prg.capacity := by decide

/-- The refusals of RUN, each with the checks before it passed. -/
theorem witness_RunEntersWait_refused :
    let k : TrialRecord := { bank := .b, wouldApply := 0, checkPass := 0, checkFail := 0, notEvaluated := 0, fired := [] }
    let trial := { line with cam := { line.cam with trial := some k } }
    let fb (p : Int) : State := { line with mgn := { line.mgn with lastFeedback := some p } }
    let up := { line with sct := { line.sct with liftState := .unknown } }
    let faulty := { line with mgn := { line.mgn with drive := .fault } }
    (∀ s ∈ [part, lineIn .running (some .wait) line, lineIn .halted none line], s.Free ∧ s.isq.line ≠ .held) ∧
      (trial.Free ∧ trial.isq.line = .held ∧ trial.cam.trial ≠ none) ∧
      ((fb 51).Free ∧ (fb 51).seatCheck = [] ∧ (fb 51).mgn.settings.band = 50 ∧ (fb (-50)).barHome = true) ∧
      (up.Free ∧ up.seatCheck = [] ∧ up.sct.liftState ≠ .down) ∧
      (faulty.Free ∧ faulty.seatCheck = [] ∧ faulty.barHome = true ∧ faulty.mgn.drive ≠ .ready) ∧
      openBank.Free ∧ openBank.seatCheck = [] ∧ openBank.mgn.drive = .ready ∧ openBank.cam.bankA.state = .open_ ∧
      openBank.cam.bankB.state = .open_ := by decide

/-- RUN by R48: the bar outside the band, the drive not READY, both banks OPEN. -/
theorem test_run_refused :
    let fb (p : Int) (d : DriveState) : State := { openBank with mgn := { openBank.mgn with
      lastFeedback := some p, drive := d } }
    answer (after (.run 1) (fb 51 .fault)) = some (.refused .notHome []) ∧
      answer (after (.run 1) (fb 50 .fault)) = some (.refused .drive []) ∧
      answer (after (.run 1) (fb 50 .ready)) = some (.refused .noCams []) := by decide

/-- RESTART, row by row of R93: HOME on and off, and a LEVEL-mode unit with FLT on. -/
theorem witness_Restart_rows :
    let away (i : InputImage) : InputImage := { i with home := false }
    let result (s : State) : State := s.modUnit 1 fun u => { u with
      operation := u.operation.map fun o => { o with result := some .failed } }
    let level : State := (stationWith .vacant .operation fun i => { i with flt := true }).modUnit 1 fun u => { u with
      config := { u.config with faultMode := .level } }
    (∀ st ∈ [UnitState.vacant, .complete, .abandoning], ((stationWith st .operation id).unit 1).state = st) ∧
      (∀ st ∈ [UnitState.working, .late], ∀ f ∈ [id, away],
        ((stationWith st .operation f).unit 1).state = st ∧ ((stationWith st .operation f).unit 1).operation.isSome = true) ∧
      (((stationWith .working .operation id).image 1).home = true ∧
        ((stationWith .working .operation away).image 1).home = false) ∧
      (∀ r ∈ [Resume.operation, .vacant, .complete, .decision, .abandon], ((stationWith .faulted r id).unit 1).state = .faulted ∧
        ((stationWith .faulted r id).unit 1).fault.any (fun f => f.resume = r) = true) ∧
      (((stationWith .faulted .abandon id).unit 1).operation.any (fun o => o.result.isNone) = true ∧
        ((result (stationWith .faulted .abandon away)).unit 1).operation.any (fun o => o.result = some .failed) = true) ∧
      ((level.unit 1).config.kind ≠ .idle ∧ (level.unit 1).config.faultMode = .level ∧ (level.image 1).flt = true) := by
  decide

/-- R93: a fault with resume OPERATION ends INTERRUPTED at HOME, one with resume DECISION decides, without a start. -/
theorem test_restart_rows :
    let routed (r : Resume) : State := { faultedAt r with rtb := (faultedAt r).rtb.set 2 [36, 0] }
    let t (r : Resume) : State := after (.restart 1) (routed r)
    let log (r : Resume) : Option (List LogEntry) := ((t r).blockAt 1).map Block.log
    log .operation = some [{ station := 1, program := 12, result := .interrupted }] ∧
      ((t .operation).unit 1).state = .complete ∧ ((t .operation).unit 1).operation = none ∧
      log .decision = some [{ station := 1, program := 36, result := .interrupted }] ∧
      ((t .decision).unit 1).state = .complete ∧ ((t .decision).unit 1).start = false ∧
      log .vacant = some [] ∧ ((t .vacant).unit 1).state = .vacant := by decide

/-- The top-up with a stagger of 0, a closed held interval, and waits that have not run out. -/
theorem witness_PulsesStartAndEnd_topUp :
    let top (held : Bool) (n d : Nat) : State := { stocked with sct := { stocked.sct with
      held := held, topUpTimer := some n, settings := { stocked.sct.settings with stagger := d } } }
    let wait : State := { line with sct := { line.sct with clampWait := some { timer := 1, stations := [2] } } }
    ((top true 0 0).Calm ∧ (top true 0 0).sct.held = true ∧ (top true 0 0).sct.topUpTimer = some 0 ∧
        (top true 0 0).sct.settings.stagger = 0) ∧
      ((top true 0 1).Calm ∧ (top true 0 1).sct.settings.stagger ≠ 0) ∧
      ((top false 0 0).Calm ∧ (top false 0 0).sct.held = false) ∧
      ((top true 1 0).Calm ∧ (top true 1 0).sct.topUpTimer ≠ some 0) ∧
      (wait.Calm ∧ wait.sct.clampWait = some { timer := 1, stations := [2] }) ∧
      line.Calm ∧ line.sct.clampWait = none ∧ line.sct.topUp ≠ .stagger 0 := by decide

/-- R108: with a stagger of 0 and no station of group B the timer is loaded again in the event of the expiry. -/
theorem test_topup_no_stagger :
    let s := { stocked with sct := { stocked.sct with
      held := true, topUpTimer := some 0, settings := { stocked.sct.settings with stagger := 0 } } }
    let t := after .topup s
    t.sct.topUp = .idle ∧ t.sct.topUpTimer = some 60000 ∧ t.commandedSide (.clamp 1) = some .engage := by decide

end Sys2Proof.Tests
end

section
/-! Proofs of the scope statements: one step takes the front command, every command completes and leaves the queue of
commands alone, and a refused request changes nothing. -/

namespace Sys2Proof.Machine

/-! ## One step (log 2) -/

theorem step_of_pending_cons {s : State} {c : Instr} {rest : List Instr} (h : s.pending = c :: rest) :
    step s = exec c { s with pending := rest } := by
  unfold step
  rw [h]

theorem step_of_pending_nil {s : State} (h : s.pending = []) : step s = .next s := by
  unfold step
  rw [h]

/-! ## The queue of commands: who leaves it alone -/

/-- The work `f` leaves the queue of waiting commands as it stands. -/
def KeepsPending (f : State → State) : Prop := ∀ s, (f s).pending = s.pending

theorem Kept.keepsPending {f : State → State} (h : ∀ s, Kept s (f s)) : KeepsPending f := fun s => (h s).pending

/-! ### The Cell Link Unit (R169 to R176) -/

theorem execute_pending (f : Frame) (s : State) : (s.execute f).2.pending = s.pending := by
  unfold State.execute
  split
  case h_1 q _ => exact (linkKept_performIn q _ s).pending
  case h_2 => rfl
  case h_3 => rfl

@[simp] theorem serve_pending (s : State) : s.serve.pending = s.pending := by
  unfold State.serve
  split
  · exact execute_pending _ _
  · rfl

@[simp] theorem arrive_pending (f : Frame) (s : State) : (s.arrive f).pending = s.pending := by
  unfold State.arrive
  (repeat' split) <;> rfl

@[simp] theorem takeFrame_pending (f : Frame) (s : State) : (s.takeFrame f).pending = s.pending := by
  unfold State.takeFrame
  split
  · exact arrive_pending f s
  · rfl

/-- A request with its fields is executed, or its frame arrives. -/
theorem submit_pending (q : Request) (tag : Byte) (s : State) : (s.submit q tag).pending = s.pending := by
  unfold State.submit
  split
  · exact (linkKept_performIn q _ s).pending
  · exact arrive_pending _ s

theorem judgeCrc_pending (len : Nat) (kind tag : Byte) (got : List Byte) (high low : Byte) (s : State) :
    (s.judgeCrc len kind tag got high low).pending = s.pending := by
  simp only [State.judgeCrc]
  split
  · exact takeFrame_pending _ _
  · rfl

/-- Every row of the framer's table (R167). -/
theorem takeByte_pending (b : Byte) (s : State) : (s.takeByte b).pending = s.pending := by
  unfold State.takeByte
  split
  · rfl
  · split
    case h_1 => split <;> rfl
    case h_2 => split <;> rfl
    case h_3 => rfl
    case h_4 => rfl
    case h_5 => rfl
    case h_6 => rfl
    case h_7 => exact judgeCrc_pending ..

theorem takeGap_pending (s : State) : s.takeGap.pending = s.pending := by
  unfold State.takeGap
  split <;> rfl

theorem takeFramingError_pending (s : State) : s.takeFramingError.pending = s.pending := by
  unfold State.takeFramingError
  split <;> rfl

theorem takeBreak_pending (s : State) : s.takeBreak.pending = s.pending := by
  unfold State.takeBreak
  split
  · rfl
  · exact (kept_setHold .break (Kept.refl _)).pending

theorem sendReply_pending (r : Reply) (s : State) : (s.sendReply r).pending = s.pending := serve_pending _

theorem sendReport_pending (s : State) : s.sendReport.pending = s.pending := by
  unfold State.sendReport
  split <;> rfl

/-- Whatever frame the transmitter chooses (R174). -/
@[simp] theorem transmit_pending (s : State) : s.transmit.pending = s.pending := by
  unfold State.transmit
  split
  · rfl
  · split
    · exact sendReply_pending _ s
    · split
      · exact sendReply_pending _ s
      · rfl
    · rfl
    · exact sendReport_pending s

@[simp] theorem flushOverflow_pending (s : State) : s.flushOverflow.pending = s.pending := by
  unfold State.flushOverflow
  (repeat' split) <;> rfl

@[simp] theorem settleLink_pending (s : State) : s.settleLink.pending = s.pending := by
  simp [State.settleLink]

/-- An event adds only CLU's own work before and after it. -/
theorem event_pending {f : State → State} (hf : KeepsPending f) (s : State) : (s.event f).pending = s.pending := by
  unfold State.event
  split
  · rfl
  · rw [settleLink_pending, hf, transmit_pending]

/-- Bytes on the line, each an event of its own (log 6). -/
theorem foldl_takeByte_pending (bytes : List Byte) (s : State) :
    (bytes.foldl (fun t b => t.event (State.takeByte b)) s).pending = s.pending := by
  induction bytes generalizing s with
  | nil => rfl
  | cons b rest ih => rw [List.foldl_cons, ih, event_pending (takeByte_pending b)]

/-- The tick moves the time base, so it is not the work of a block alone; the queue stays. -/
theorem tick_pending (s : State) : s.tick.pending = s.pending :=
  (kept_judge (kept_motionTick (Kept.refl s.countDown))).pending

/-! ### Every command -/

/-- The command answers a next state that has the queue as it was. -/
def CompletesKeepingQueue (c : Instr) (s : State) : Prop := ∃ t, exec c s = .next t ∧ t.pending = s.pending

theorem completes_of_event {c : Instr} {s : State} {f : State → State} (h : exec c s = .next (s.event f))
    (hf : KeepsPending f) : CompletesKeepingQueue c s := ⟨s.event f, h, event_pending hf s⟩

/-- The event of a command that is the work of blocks. -/
theorem completes_of_kept {c : Instr} {s : State} {f : State → State} (h : exec c s = .next (s.event f))
    (hf : ∀ t, Kept t (f t)) : CompletesKeepingQueue c s := completes_of_event h (Kept.keepsPending hf)

/-- A command that stands for a request is the event of that request (log 5). -/
theorem exec_of_request {c : Instr} {q : Request} (h : Laws.Sendable.request c = some q) (s : State) :
    ∃ tag, exec c s = .next (s.requestEvent q tag) := by
  cases c <;> cases h <;> exact ⟨_, rfl⟩

theorem completes_of_request {c : Instr} {q : Request} (h : Laws.Sendable.request c = some q) (s : State) :
    CompletesKeepingQueue c s := by
  obtain ⟨tag, he⟩ := exec_of_request h s
  exact completes_of_event he (submit_pending q tag)

/-- The field side is the work of blocks, but for the tick, which also moves the time base. -/
theorem completes_of_isField {c : Instr} (h : c.isField = true) (s : State) : CompletesKeepingQueue c s := by
  cases c
  case motionTick => exact completes_of_event rfl tick_pending
  case driveFeedbackReceived bytes => exact completes_of_kept rfl fun t => kept_keepFeedback bytes (.refl t)
  case settleTimeout => exact completes_of_kept rfl fun t => kept_settleExpired (.refl t)
  case ringScan => exact completes_of_kept rfl fun t => kept_takeScan (.refl t)
  case ringFrameReceived bytes => exact completes_of_kept rfl fun t => kept_takeRingFrame bytes (.refl t)
  case stage1Expiry k => exact completes_of_kept rfl fun t => kept_stage1Expires k (.refl t)
  case stage2Expiry k => exact completes_of_kept rfl fun t => kept_stage2Expires k (.refl t)
  case indexStart => exact completes_of_kept rfl fun t => kept_judgeReady (.refl t)
  case phaseTimeout => exact completes_of_kept rfl fun t => kept_commandExpired (.refl t)
  case liftTimeout => exact completes_of_kept rfl fun t => kept_movementExpired (.refl t)
  case clampStagger => exact completes_of_kept rfl fun t => kept_staggerExpires (.refl t)
  case pulseEnd channel => exact completes_of_kept rfl fun t => kept_endPulse channel (.refl t)
  case positionRequestTimeout id => exact completes_of_kept rfl fun t => kept_requestExpires id (.refl t)
  case topup => exact completes_of_kept rfl fun t => kept_topUpExpires (.refl t)
  case topupStagger => exact completes_of_kept rfl fun t => kept_topUpStaggerExpires (.refl t)
  case waiting => exact completes_of_kept rfl fun t => kept_waitExpires (.refl t)
  case feedStart => exact completes_of_kept rfl fun t => kept_judgeFeed (.refl t)
  case feedTimeout => exact completes_of_kept rfl fun t => kept_feedExpires (.refl t)
  case readTimeout => exact completes_of_kept rfl fun t => kept_readExpires (.refl t)
  case loadWaitExpired => exact completes_of_kept rfl fun t => kept_loadWaitExpires (.refl t)
  all_goals cases h

/-- Requests, the field side, then the line of the cell link and the reset pin. -/
theorem exec_completes (c : Instr) (s : State) : CompletesKeepingQueue c s := by
  cases hq : Laws.Sendable.request c with
  | some q => exact completes_of_request hq s
  | none =>
    cases hf : c.isField with
    | true => exact completes_of_isField hf s
    | false =>
      cases c
      case unknownRequest tag kind payload => exact completes_of_event rfl (takeFrame_pending _)
      case frameReceived bytes => exact ⟨_, rfl, foldl_takeByte_pending bytes s⟩
      case frameGap => exact completes_of_event rfl takeGap_pending
      case framingError => exact completes_of_event rfl takeFramingError_pending
      case linkBreak => exact completes_of_event rfl takeBreak_pending
      case breakEnd => exact completes_of_event rfl fun _ => rfl
      case transmitDone => exact completes_of_event rfl fun _ => rfl
      case frameAbandonLength byte => exact completes_of_event rfl (takeByte_pending byte)
      case powerOnReset rate1 rate0 => exact ⟨_, rfl, rfl⟩
      case rstAssert => exact ⟨_, rfl, rfl⟩
      all_goals exact nomatch hq, hf

/-! ## Refusals (R1): the answer with the state it leaves -/

/-- If the answer is a refusal, the state is `s`. -/
def KeepsOnRefusal (s : State) (a : Answer × State) : Prop := ∀ why detail, a.1 = .refused why detail → a.2 = s

@[simp] theorem keepsOnRefusal_self (a : Answer) (s : State) : KeepsOnRefusal s (a, s) := fun _ _ _ => rfl

@[simp] theorem keepsOnRefusal_refuse (why : Reason) (s : State) : KeepsOnRefusal s (s.refuse why) :=
  keepsOnRefusal_self _ s

@[simp] theorem keepsOnRefusal_ok (content : List Byte) (s t : State) : KeepsOnRefusal s (.ok content, t) :=
  fun _ _ h => nomatch h

@[simp] theorem keepsOnRefusal_accepted (content : List Byte) (s t : State) :
    KeepsOnRefusal s (.accepted content, t) :=
  fun _ _ h => nomatch h

/-! ### One lemma per handler with checks of its own

A check that fails hands back the state it was given; every branch that changes the state answers OK or ACCEPTED. -/

theorem doQueryStation_keepsOnRefusal (station : Byte) (s : State) :
    KeepsOnRefusal s (s.doQueryStation station) := by
  simp only [State.doQueryStation]
  (repeat' split) <;> simp

theorem doQueryPallet_keepsOnRefusal (id : Byte) (s : State) : KeepsOnRefusal s (s.doQueryPallet id) := by
  simp only [State.doQueryPallet]
  (repeat' split) <;> simp

theorem doSetLine_keepsOnRefusal (f : LineFields) (s : State) : KeepsOnRefusal s (s.doSetLine f) := by
  simp only [State.doSetLine]
  (repeat' split) <;> simp

theorem doSetStation_keepsOnRefusal (f : StationFields) (s : State) :
    KeepsOnRefusal s (s.doSetStation f) := by
  simp only [State.doSetStation]
  (repeat' split) <;> simp

theorem doSetRoute_keepsOnRefusal (route : Byte) (l : List Byte) (s : State) :
    KeepsOnRefusal s (s.doSetRoute route l) := by
  simp only [State.doSetRoute]
  (repeat' split) <;> simp

theorem doCamWrite_keepsOnRefusal (bank start : Byte) (l : List PointFields) (s : State) :
    KeepsOnRefusal s (s.doCamWrite bank start l) := by
  simp only [State.doCamWrite]
  (repeat' split) <;> simp

theorem doCamArm_keepsOnRefusal (bank : Byte) (s : State) : KeepsOnRefusal s (s.doCamArm bank) := by
  simp only [State.doCamArm]
  (repeat' split) <;> simp

theorem doCamDisarm_keepsOnRefusal (bank : Byte) (s : State) : KeepsOnRefusal s (s.doCamDisarm bank) := by
  simp only [State.doCamDisarm]
  (repeat' split) <;> simp

theorem doTrial_keepsOnRefusal (bank : Byte) (s : State) : KeepsOnRefusal s (s.doTrial bank) := by
  simp only [State.doTrial]
  (repeat' split) <;> simp

theorem doEnrolTail_keepsOnRefusal (id : Byte) (s : State) : KeepsOnRefusal s (s.doEnrolTail id) := by
  simp only [State.doEnrolTail]
  (repeat' split) <;> simp

theorem doEnrolLoad_keepsOnRefusal (id : Byte) (s : State) : KeepsOnRefusal s (s.doEnrolLoad id) := by
  simp only [State.doEnrolLoad]
  (repeat' split) <;> simp

theorem doEnrol_keepsOnRefusal (place id : Byte) (s : State) : KeepsOnRefusal s (s.doEnrol place id) := by
  unfold State.doEnrol
  split
  · exact doEnrolTail_keepsOnRefusal id s
  · exact doEnrolLoad_keepsOnRefusal id s
  · split <;> simp

theorem doPlace_keepsOnRefusal (id p : Byte) (f : Option BlockFields) (s : State) :
    KeepsOnRefusal s (s.doPlace id p f) := by
  simp only [State.doPlace]
  (repeat' split) <;> simp

theorem doUnplace_keepsOnRefusal (p : Byte) (s : State) : KeepsOnRefusal s (s.doUnplace p) := by
  simp only [State.doUnplace]
  (repeat' split) <;> simp

theorem doAdmit_keepsOnRefusal (id : Byte) (resetCount : Bool) (s : State) :
    KeepsOnRefusal s (s.doAdmit id resetCount) := by
  simp only [State.doAdmit]
  (repeat' split) <;> simp

theorem doWithdraw_keepsOnRefusal (id : Byte) (s : State) : KeepsOnRefusal s (s.doWithdraw id) := by
  simp only [State.doWithdraw]
  (repeat' split) <;> simp

theorem doRetire_keepsOnRefusal (id : Byte) (s : State) : KeepsOnRefusal s (s.doRetire id) := by
  simp only [State.doRetire]
  (repeat' split) <;> simp

theorem doAssign_keepsOnRefusal (serial : List Byte) (variant : Byte) (s : State) :
    KeepsOnRefusal s (s.doAssign serial variant) := by
  simp only [State.doAssign]
  (repeat' split) <;> simp

theorem doEmpty_keepsOnRefusal (s : State) : KeepsOnRefusal s s.doEmpty := by
  simp only [State.doEmpty]
  (repeat' split) <;> simp

theorem doDispose_keepsOnRefusal (id d : Byte) (s : State) : KeepsOnRefusal s (s.doDispose id d) := by
  simp only [State.doDispose]
  (repeat' split) <;> simp

theorem doService_keepsOnRefusal (inService : Bool) (station : Byte) (s : State) :
    KeepsOnRefusal s (s.doService inService station) := by
  simp only [State.doService]
  (repeat' split) <;> simp

theorem clearFault_keepsOnRefusal (k : Nat) (retry : Bool) (f : FaultRecord) (s : State) :
    KeepsOnRefusal s (s.clearFault k retry f) := by
  simp only [State.clearFault]
  (repeat' split) <;> simp

theorem doFaultClear_keepsOnRefusal (station action : Byte) (s : State) :
    KeepsOnRefusal s (s.doFaultClear station action) := by
  simp only [State.doFaultClear]
  (repeat' split) <;> simp [clearFault_keepsOnRefusal]

theorem doRun_keepsOnRefusal (s : State) : KeepsOnRefusal s s.doRun := by
  simp only [State.doRun]
  (repeat' split) <;> simp

theorem doRecover_keepsOnRefusal (direction : Byte) (s : State) :
    KeepsOnRefusal s (s.doRecover direction) := by
  simp only [State.doRecover]
  (repeat' split) <;> simp

theorem doEcho_keepsOnRefusal (l : List Byte) (s : State) : KeepsOnRefusal s (s.doEcho l) := by
  simp only [State.doEcho]
  (repeat' split) <;> simp

/-! ### Every request -/

/-- IDENT, three of the queries, HOLD, STOP, REPORT MASK and RESTART have no check of the owning block: they answer OK. -/
theorem perform_keepsOnRefusal (q : Request) (s : State) : KeepsOnRefusal s (q.perform s) := by
  cases q with
  | ident => exact keepsOnRefusal_ok _ s s
  | queryStatus => exact keepsOnRefusal_ok _ s s
  | queryStation k => exact doQueryStation_keepsOnRefusal k s
  | queryPallet id => exact doQueryPallet_keepsOnRefusal id s
  | queryMap => exact keepsOnRefusal_ok _ s s
  | queryQueue => exact keepsOnRefusal_ok _ s s
  | setLine f => exact doSetLine_keepsOnRefusal f s
  | setStation f => exact doSetStation_keepsOnRefusal f s
  | setRoute v l => exact doSetRoute_keepsOnRefusal v l s
  | camWrite b i l => exact doCamWrite_keepsOnRefusal b i l s
  | camArm b => exact doCamArm_keepsOnRefusal b s
  | camDisarm b => exact doCamDisarm_keepsOnRefusal b s
  | palletEnrol place id => exact doEnrol_keepsOnRefusal place id s
  | palletPlace id p b => exact doPlace_keepsOnRefusal id p b s
  | palletUnplace p => exact doUnplace_keepsOnRefusal p s
  | palletAdmit id r => exact doAdmit_keepsOnRefusal id r s
  | palletWithdraw id => exact doWithdraw_keepsOnRefusal id s
  | palletRetire id => exact doRetire_keepsOnRefusal id s
  | blockAssign l v => exact doAssign_keepsOnRefusal l v s
  | blockEmpty => exact doEmpty_keepsOnRefusal s
  | dispose id d => exact doDispose_keepsOnRefusal id d s
  | stationOut k => exact doService_keepsOnRefusal false k s
  | stationIn k => exact doService_keepsOnRefusal true k s
  | faultClear k a => exact doFaultClear_keepsOnRefusal k a s
  | run => exact doRun_keepsOnRefusal s
  | hold => exact keepsOnRefusal_ok _ s _
  | stop => exact keepsOnRefusal_ok _ s _
  | recover d => exact doRecover_keepsOnRefusal d s
  | trial b => exact doTrial_keepsOnRefusal b s
  | reportMask e t => exact keepsOnRefusal_ok _ s _
  | echo l => exact doEcho_keepsOnRefusal l s
  | restart => exact keepsOnRefusal_ok _ s _

theorem performIn_keepsOnRefusal (q : Request) (n : Nat) (s : State) :
    KeepsOnRefusal s (q.performIn n s) := by
  unfold Request.performIn
  split
  · exact perform_keepsOnRefusal q s
  · exact keepsOnRefusal_refuse _ s

/-- CLU's own checks stand before the block's (R169). -/
theorem execute_keepsOnRefusal (f : Frame) (s : State) : KeepsOnRefusal s (s.execute f) := by
  unfold State.execute
  split
  · exact performIn_keepsOnRefusal _ _ s
  · exact keepsOnRefusal_refuse _ s
  · exact keepsOnRefusal_refuse _ s

/-! ## The statements -/

/-- Settles O1, by the two cases of the queue. -/
theorem stepTakesTheFrontCommand : Obligations.StepTakesTheFrontCommand :=
  ⟨fun _ _ _ => step_of_pending_cons, fun _ => step_of_pending_nil⟩

/-- Settles O2: a command is the event of a request, the work of blocks on the field side, or CLU's own work. -/
theorem everyCommandCompletesAndKeepsTheQueue : Obligations.EveryCommandCompletesAndKeepsTheQueue :=
  exec_completes

/-- Settles O5, request by request, then through CLU's checks of the frame. -/
theorem refusedRequestChangesNothing : Obligations.RefusedRequestChangesNothing :=
  ⟨perform_keepsOnRefusal, execute_keepsOnRefusal⟩

end Sys2Proof.Machine
end

section
/-! Proofs of the statements on routes, blocks and dispositions: SET ROUTE, DISPOSE, the append, BLOCK ASSIGN and
BLOCK EMPTY. -/

namespace Sys2Proof.Machine

/-! ## A request on a free link -/

/-- A request that fits its frame is the owning block's work, answered. -/
theorem requestEvent_of_perform {s t : State} {q : Request} {tag : Byte} {a : Answer} (h : s.Free)
    (hfits : q.payload.length ≤ Config.maxPayload) (hperform : q.perform s = (a, t)) :
    s.requestEvent q tag = t.answered q.kind tag a := by
  rw [requestEvent_free q tag h, performIn_fits s hfits, hperform]

/-- A request too long for a frame is BAD_LENGTH (R170; log 50). -/
theorem requestEvent_of_long {s : State} {q : Request} {tag : Byte} (h : s.Free)
    (hlong : Config.maxPayload < q.payload.length) :
    s.requestEvent q tag = s.answered q.kind tag (.refused .badLength []) := by
  rw [requestEvent_free q tag h, performIn_long s hlong]

/-! ## SET ROUTE (R33) -/

theorem length_payload_setRoute (route : Byte) (l : List Byte) :
    (Request.setRoute route l).payload.length = l.length + 2 := by
  simp only [Request.payload, List.length_cons, Laws.Sendable.length_listOf_put8]
  omega

theorem exec_setRoute_long {s : State} {tag route : Byte} {l : List Byte} (h : s.Free) (hl : 238 < l.length) :
    exec (.setRoute tag route l) s = .next (s.answered 0x09 tag (.refused .badLength [])) :=
  congrArg _ (requestEvent_of_long h (by rw [length_payload_setRoute, Config.maxPayload]; omega))

theorem exec_setRoute {s t : State} {tag route : Byte} {l : List Byte} {a : Answer} (h : s.Free) (hl : l.length ≤ 238)
    (hdo : s.doSetRoute route l = (a, t)) : exec (.setRoute tag route l) s = .next (t.answered 0x09 tag a) :=
  congrArg _ (requestEvent_of_perform (q := .setRoute route l) h
    (by rw [length_payload_setRoute, Config.maxPayload]; omega) hdo)

/-- Station `i + 1` stands at place `i` of the stations 1..N. -/
theorem getElem?_stationList (s : State) (i : Nat) : s.stationList[i]? = if i < s.n then some (i + 1) else none := by
  rw [State.stationList, List.getElem?_map]
  split
  case isTrue h => rw [List.getElem?_range h]; rfl
  case isFalse h => rw [List.getElem?_eq_none (by simpa using h)]; rfl

/-- A program other than 0 for a station that is IDLE is a conflict, and nothing else is (R33). -/
theorem routeConflict_iff {s : State} {l : List Byte} (hlen : l.length = s.n) :
    s.routeConflict l = true ↔
      ∃ (i : Nat) (b : Byte), l[i]? = some b ∧ b ≠ 0 ∧ (s.unit (i + 1)).config.kind = .idle := by
  have hzip : ∀ (i : Nat) (e : Nat × Byte),
      (s.stationList.zip l)[i]? = some e ↔ e.1 = i + 1 ∧ l[i]? = some e.2 := by
    intro i e
    rw [List.getElem?_zip_eq_some, getElem?_stationList]
    constructor
    · rintro ⟨hstation, hprogram⟩
      split at hstation
      · exact ⟨(Option.some.inj hstation).symm, hprogram⟩
      · cases hstation
    · rintro ⟨hstation, hprogram⟩
      have hi : i < s.n := hlen ▸ (List.getElem?_eq_some_iff.mp hprogram).1
      exact ⟨by rw [if_pos hi, hstation], hprogram⟩
  simp only [State.routeConflict, List.any_eq_true, Bool.and_eq_true, bne_iff_ne, beq_iff_eq]
  constructor
  · rintro ⟨⟨k, b⟩, hmem, hb, hkind⟩
    obtain ⟨i, hi⟩ := List.mem_iff_getElem?.mp hmem
    obtain ⟨rfl, hl⟩ := (hzip i (k, b)).mp hi
    exact ⟨i, b, hl, hb, hkind⟩
  · rintro ⟨i, b, hl, hb, hkind⟩
    exact ⟨(i + 1, b), List.mem_of_getElem? ((hzip i (i + 1, b)).mpr ⟨rfl, hl⟩), hb, hkind⟩

/-- The field checks of SET ROUTE. -/
theorem setRoute_badField_iff {s : State} {route : Byte} {l : List Byte} :
    (7 < route.toNat ∨ l.length ≠ s.n ∨ l.any (fun b => Nat.blt 250 b.toNat) = true) ↔
      (7 < route.toNat ∨ l.length ≠ s.n ∨ ∃ b ∈ l, 250 < b.toNat) := by
  simp only [List.any_eq_true, Nat.blt_eq]

theorem doSetRoute_wrongState {s : State} {route : Byte} {l : List Byte} (hline : s.isq.line = .unconfigured) :
    s.doSetRoute route l = s.refuse .wrongState := if_pos hline

theorem doSetRoute_badField {s : State} {route : Byte} {l : List Byte} (hline : s.isq.line ≠ .unconfigured)
    (hbad : 7 < route.toNat ∨ l.length ≠ s.n ∨ ∃ b ∈ l, 250 < b.toNat) :
    s.doSetRoute route l = s.refuse .badField := by
  rw [State.doSetRoute, if_neg hline, if_pos (setRoute_badField_iff.mpr hbad)]

/-- With the fields in their values the conflict decides. -/
theorem doSetRoute_fields {s : State} {route : Byte} {l : List Byte} (hline : s.isq.line ≠ .unconfigured)
    (hroute : route.toNat ≤ 7) (hlen : l.length = s.n) (hl : ∀ x ∈ l, x.toNat ≤ 250) :
    s.doSetRoute route l =
      if s.routeConflict l then s.refuse .routeConflict
      else (.ok [], { s with rtb := s.rtb.set route.toNat (l.map BitVec.toNat ++ List.replicate (24 - l.length) 0) }) := by
  have hgood : ¬(7 < route.toNat ∨ l.length ≠ s.n ∨ ∃ b ∈ l, 250 < b.toNat) := by
    rintro (h | h | ⟨b, hb, h⟩)
    · omega
    · exact h hlen
    · have := hl b hb; omega
  rw [State.doSetRoute, if_neg hline, if_neg (mt setRoute_badField_iff.mp hgood)]
  rfl

/-- Settles O24, check by check. -/
theorem setRouteReplacesTheRoute : Obligations.SetRouteReplacesTheRoute := by
  intro s tag route l hfree
  refine ⟨exec_setRoute_long hfree, fun hl => ⟨?_, ?_, ?_, ?_⟩⟩
  · intro hline
    exact exec_setRoute hfree hl (doSetRoute_wrongState hline)
  · intro hline hbad
    exact exec_setRoute hfree hl (doSetRoute_badField hline hbad)
  · intro i b hline hroute hlen hrange hib hb hkind
    refine exec_setRoute hfree hl ?_
    rw [doSetRoute_fields hline hroute hlen hrange, if_pos ((routeConflict_iff hlen).mpr ⟨i, b, hib, hb, hkind⟩)]
    rfl
  · intro hline hroute hlen hrange hno
    refine exec_setRoute hfree hl ?_
    rw [doSetRoute_fields hline hroute hlen hrange, if_neg]
    intro hconflict
    obtain ⟨i, b, hib, hb, hkind⟩ := (routeConflict_iff hlen).mp hconflict
    exact hno i b hib hb hkind

/-! ## DISPOSE (R42) -/

theorem exec_dispose {s t : State} {tag id d : Byte} {a : Answer} (h : s.Free) (hdo : s.doDispose id d = (a, t)) :
    exec (.dispose tag id d) s = .next (t.answered 0x15 tag a) :=
  congrArg _ (requestEvent_of_perform (q := .dispose id d) h
    (show 2 ≤ Config.maxPayload by decide) hdo)

theorem idOk_iff (id : Byte) : idOk id = true ↔ 1 ≤ id.toNat ∧ id.toNat ≤ 250 := by simp [idOk]

/-- A byte above 2 names no disposition. -/
theorem dispositionOf_large {d : Byte} (h : 2 < d.toNat) : dispositionOf d = none := by
  unfold dispositionOf
  split
  case h_1 h0 => omega
  case h_2 h1 => omega
  case h_3 h2 => omega
  case h_4 => rfl

/-- The bytes 0, 1 and 2 name the dispositions in the order of Table 2-1. -/
theorem dispositionOf_small {d : Byte} (h : d.toNat ≤ 2) :
    dispositionOf d = some (if d = 0 then .good else if d = 1 then .suspect else .reject) := by
  have hd : d = 0 ∨ d = 1 ∨ d = 2 := by bv_omega
  obtain rfl | rfl | rfl := hd <;> rfl

theorem doDispose_wrongState {s : State} {id d : Byte} (hline : s.isq.line = .unconfigured) :
    s.doDispose id d = s.refuse .wrongState := if_pos hline

theorem doDispose_badField {s : State} {id d : Byte} (hline : s.isq.line ≠ .unconfigured)
    (hbad : ¬(1 ≤ id.toNat ∧ id.toNat ≤ 250) ∨ 2 < d.toNat) : s.doDispose id d = s.refuse .badField := by
  rw [State.doDispose, if_neg hline]
  by_cases hd : 2 < d.toNat
  · rw [dispositionOf_large hd]
  · rw [dispositionOf_small (by omega)]
    have hid : idOk id = false := by simpa [← idOk_iff, hd] using hbad
    simp only [hid, Bool.not_false, if_true]

/-- With the fields in their values the record, its block and the lock decide. -/
theorem doDispose_fields {s : State} {id d : Byte} (hline : s.isq.line ≠ .unconfigured)
    (hid : 1 ≤ id.toNat ∧ id.toNat ≤ 250) (hd : d.toNat ≤ 2) :
    s.doDispose id d =
      match s.record id.toNat with
      | none => s.refuse .unknownPallet
      | some r =>
        match r.block with
        | none => s.refuse .noBlock
        | some x =>
          if x.lock then s.refuse .locked
          else
            (.ok [], s.modBlock id.toNat fun y =>
              { y with disposition := if d = 0 then .good else if d = 1 then .suspect else .reject }) := by
  rw [State.doDispose, if_neg hline, dispositionOf_small hd]
  simp only [(idOk_iff id).mpr hid, Bool.not_true, Bool.false_eq_true, if_false] <;> rfl

/-- Settles O36, check by check. -/
theorem disposeSetsTheDisposition : Obligations.DisposeSetsTheDisposition := by
  intro s tag id d hfree
  refine ⟨?_, ?_, ?_⟩
  · intro hline
    exact exec_dispose hfree (doDispose_wrongState hline)
  · intro hline hbad
    exact exec_dispose hfree (doDispose_badField hline hbad)
  · intro hline hlo hhi hd
    have hdo := doDispose_fields hline ⟨hlo, hhi⟩ hd
    refine ⟨?_, ?_, ?_⟩
    · intro hrecord
      rw [hrecord] at hdo
      exact exec_dispose hfree hdo
    · intro r hrecord hblock
      simp only [hrecord, hblock] at hdo
      exact exec_dispose hfree hdo
    · intro r x hrecord hblock
      simp only [hrecord, hblock] at hdo
      refine ⟨?_, ?_⟩
      · intro hlock
        rw [hlock] at hdo
        exact exec_dispose hfree hdo
      · intro hlock
        rw [hlock] at hdo
        exact ⟨_, rfl, exec_dispose hfree hdo⟩

/-! ## The append (R29 to R31) -/

/-- The disposition an append leaves, written as the rows of R30. -/
theorem after_eq (r : LogResult) (d : Disposition) :
    d.after r =
      match r, d with
      | .fail, _ => .reject
      | .timedOut, .good | .failed, .good | .interrupted, .good => .suspect
      | _, d => d := by
  cases r <;> cases d <;> rfl

/-- PASS and FAIL alone are the results of a gauge (R31). -/
theorem gauged_eq (r : LogResult) : r.gauged = (r == .pass || r == .fail) := by cases r <;> rfl

/-- The write of an append with the rows of R30 and R31 spelt out. -/
theorem block_append_eq (e : LogEntry) (final : Bool) :
    Block.append e final = fun y => { y with
      log := y.log ++ [e]
      disposition :=
        match e.result, y.disposition with
        | .fail, _ => .reject
        | .timedOut, .good | .failed, .good | .interrupted, .good => .suspect
        | _, d => d
      lock := y.lock || (final && (e.result == .pass || e.result == .fail)) } := by
  funext y
  simp only [Block.append, after_eq, gauged_eq]

@[simp] theorem report_prg (r : Report) (s : State) : (s.report r).prg = s.prg := rfl

theorem appendRefusal_of_refused {s : State} {k : Nat}
    (h : (s.blockAt k).all (fun x => x.lock || x.logged k) = true) : ∃ why, s.appendRefusal k = some why := by
  unfold State.appendRefusal
  cases hb : s.blockAt k with
  | none => exact ⟨_, rfl⟩
  | some x =>
    simp only [hb, Option.all_some, Bool.or_eq_true] at h
    by_cases hlock : x.lock = true
    · exact ⟨.locked, by simp [hlock]⟩
    · exact ⟨.duplicate, by simp [hlock, h.resolve_left hlock]⟩

theorem append_refused {s : State} {k program : Nat} {r : LogResult} {why : DiscardReason}
    (h : s.appendRefusal k = some why) : s.append k program r = (s.report (.logDiscarded k program r why), false) := by
  simp only [State.append, h]

/-- An append that is taken is one change of the block, and a report when the disposition changes (R30). -/
theorem append_taken {s : State} {k program id : Nat} {r : LogResult} {x : Block} (hpallet : s.palletAt k = some id)
    (hblock : s.blockAt k = some x) (hlock : x.lock = false) (hlogged : x.logged k = false) :
    s.append k program r =
      (let t := s.modBlock id
        (Block.append { station := k, program := program, result := r } (s.unit k).config.finalGauge)
       if x.disposition.after r = x.disposition then t
       else t.report (.dispositionChanged id x.serial k r x.disposition (x.disposition.after r)), true) := by
  have hnone : s.appendRefusal k = none := by simp [State.appendRefusal, hblock, hlock, hlogged]
  simp only [State.append, hnone, hpallet, hblock]

/-- Settles O37: the append is taken or refused by what the block shows. -/
theorem appendWritesOnceOrNothing : Obligations.AppendWritesOnceOrNothing := by
  intro s k program res
  refine ⟨?_, ?_⟩
  · intro id x hpallet hblock hlock hlogged
    rw [append_taken hpallet hblock hlock hlogged]
    refine ⟨rfl, ?_⟩
    simp only [apply_ite State.prg, report_prg, ite_self, block_append_eq]
    rfl
  · intro hrefused
    obtain ⟨why, hwhy⟩ := appendRefusal_of_refused hrefused
    rw [append_refused hwhy]
    exact ⟨rfl, rfl⟩

/-! ## The position-0 state (R38, R141) -/

/-- What the load check finds (R38): the judgement in READY with no index open, the disagreement that stands while one
is, none in the other states. -/
def State.loadFinding (s : State) : Option Disagreement :=
  if s.fdu.state = .ready then
    if s.prg.openIndex then s.prg.disagreement else judgeLoad (s.blockAt 0).isSome (s.image 0).block
  else none

/-- A finding is written; BLOCK AGREED ends the disagreement before it. -/
def State.writeFinding (d : Option Disagreement) (s : State) : State :=
  let t := s.modPrg fun g => { g with disagreement := d }
  if s.prg.disagreement.isSome then t.report (.blockAgreed 0) else t

theorem writeFinding_eq (d : Option Disagreement) (s : State) :
    ∃ c, s.writeFinding d = { s with prg := { s.prg with disagreement := d }, clu := c } := by
  simp only [State.writeFinding]
  split <;> exact ⟨_, rfl⟩

/-- A finding that stands already changes nothing. -/
theorem loadCheck_same {s : State} (h : s.loadFinding = s.prg.disagreement) : s.loadCheck = s := if_pos h

/-- Another finding is written, and its own report follows. -/
theorem loadCheck_other {s : State} (h : s.loadFinding ≠ s.prg.disagreement) :
    s.loadCheck =
      match s.loadFinding with
      | none => s.writeFinding s.loadFinding
      | some .phantom => (s.writeFinding s.loadFinding).report (.phantomLoad ((s.palletAt 0).getD 0))
      | some .missing =>
        (s.writeFinding s.loadFinding).report
          (.missingBlock ((s.palletAt 0).getD 0) (((s.blockAt 0).map Block.serial).getD [])) :=
  (if_neg h).trans rfl

/-- The load check writes the disagreement, and reports. -/
theorem loadCheck_eq (s : State) :
    ∃ d c, s.loadCheck = { s with prg := { s.prg with disagreement := d }, clu := c } := by
  by_cases h : s.loadFinding = s.prg.disagreement
  · exact ⟨_, _, loadCheck_same h⟩
  · obtain ⟨c, hwrite⟩ := writeFinding_eq s.loadFinding s
    rw [loadCheck_other h, hwrite]
    split <;> exact ⟨_, _, rfl⟩

/-- A change of the position-0 state writes it with the load hold and the load-wait timer, makes the load check, and
reports. -/
theorem setLoad_eq (l : LoadState) (hold : Bool) (s : State) :
    ∃ d c, s.setLoad l hold =
      { s with
        fdu := { s.fdu with state := l, loadHold := hold, loadWait := s.fdu.waitTimer l }
        prg := { s.prg with disagreement := d }
        clu := c } := by
  simp only [State.setLoad]
  split
  case isTrue => split <;> exact ⟨_, _, rfl⟩
  case isFalse =>
    obtain ⟨d, c, h⟩ := loadCheck_eq (State.report (.loadState s.fdu.state l (s.slot 0) hold)
      (s.modFdu fun f => { f with state := l, loadHold := hold, loadWait := f.waitTimer l }))
    exact ⟨d, c, h⟩

/-- Position 0 becomes or stays READY with the load-wait timer stopped (R36, R37, R150). -/
theorem loadReady_eq (s : State) :
    ∃ d c, s.loadReady =
      { s with
        fdu := { s.fdu with state := .ready, loadWait := none }
        prg := { s.prg with disagreement := d }
        clu := c } := by
  obtain ⟨d, c, h⟩ := setLoad_eq .ready s.fdu.loadHold s
  obtain ⟨d', c', h'⟩ := loadCheck_eq (s.toLoad .ready)
  refine ⟨d', c', h'.trans ?_⟩
  rw [State.toLoad, h]
  rfl

/-- READY again is no change but for the load-wait timer. -/
theorem toLoad_ready_of_ready {s : State} (h : s.fdu.state = .ready) :
    s.toLoad .ready = { s with fdu := { s.fdu with loadWait := none } } := by
  simp only [State.toLoad, State.setLoad, h, if_true, State.modFdu, Fdu.waitTimer]

/-! ## BLOCK ASSIGN and BLOCK EMPTY (R36 to R38, R53) -/

/-- A reply is placed in the slot, and no block but the Cell Link Unit has a part in it. -/
theorem answered_eq (kind tag : Byte) (a : Answer) (s : State) :
    ∃ c, s.answered kind tag a = { s with clu := c } ∧ c.replySlot = some { kind := kind, tag := tag, answer := a } := by
  unfold State.answered State.flushOverflow
  (repeat' split) <;> exact ⟨_, rfl, rfl⟩

/-- Readiness opens an index in RUNNING alone (R52). -/
theorem judgeReady_of_not_running {s : State} (h : s.isq.line ≠ .running) : s.judgeReady = s := by
  refine if_neg ?_
  simp [State.ready, State.inWait, State.runningIn, h]

theorem length_payload_blockAssign (serial : List Byte) (v : Byte) :
    (Request.blockAssign serial v).payload.length = serial.length + 2 := by
  simp only [Request.payload, List.length_append, List.length_cons, List.length_nil,
    Laws.Sendable.length_listOf_put8]
  omega

theorem exec_blockAssign_long {s : State} {tag : Byte} {serial : List Byte} {v : Byte} (h : s.Free)
    (hl : 238 < serial.length) :
    exec (.blockAssign tag serial v) s = .next (s.answered 0x13 tag (.refused .badLength [])) :=
  congrArg _ (requestEvent_of_long h (by rw [length_payload_blockAssign, Config.maxPayload]; omega))

theorem exec_blockAssign {s t : State} {tag : Byte} {serial : List Byte} {v : Byte} {a : Answer} (h : s.Free)
    (hl : serial.length ≤ 238) (hdo : s.doAssign serial v = (a, t)) :
    exec (.blockAssign tag serial v) s = .next (t.answered 0x13 tag a) :=
  congrArg _ (requestEvent_of_perform (q := .blockAssign serial v) h
    (by rw [length_payload_blockAssign, Config.maxPayload]; omega) hdo)

theorem exec_blockEmpty {s t : State} {tag : Byte} {a : Answer} (h : s.Free) (hdo : s.doEmpty = (a, t)) :
    exec (.blockEmpty tag) s = .next (t.answered 0x14 tag a) :=
  congrArg _ (requestEvent_of_perform (q := .blockEmpty) h (by decide) hdo)

/-- Position 0 may take an assignment: a waiting pallet, or one declared empty with no index opened since. -/
theorem assignable_iff (s : State) :
    s.assignable = true ↔
      s.fdu.state = .awaitingBlock ∨ (s.fdu.state = .ready ∧ s.blockAt 0 = none ∧ s.prg.openIndex = false) := by
  simp [State.assignable, and_assoc]

theorem serialOk_iff (l : List Byte) :
    serialOk l = true ↔ 1 ≤ l.length ∧ l.length ≤ 16 ∧ ∀ b ∈ l, 0x20 ≤ b.toNat ∧ b.toNat ≤ 0x7E := by
  simp [serialOk, and_assoc]

theorem doAssign_wrongState {s : State} {serial : List Byte} {v : Byte} (hline : s.isq.line = .unconfigured) :
    s.doAssign serial v = s.refuse .wrongState := if_pos hline

theorem doAssign_badField {s : State} {serial : List Byte} {v : Byte} (hline : s.isq.line ≠ .unconfigured)
    (hbad : ¬(serialOk serial = true ∧ v.toNat ≤ 7)) : s.doAssign serial v = s.refuse .badField := by
  have hcheck : (!serialOk serial) = true ∨ 7 < v.toNat := by
    rw [Bool.not_eq_true']
    by_cases h : serialOk serial = true
    · exact .inr (Nat.lt_of_not_le fun hv => hbad ⟨h, hv⟩)
    · exact .inl (by simpa using h)
  rw [State.doAssign, if_neg hline, if_pos hcheck]

/-- The block BLOCK ASSIGN creates (R36). -/
def Block.assigned (serial : List Byte) (v : Byte) : Block :=
  { serial := serial, variant := v.toNat, disposition := .good, lock := false, log := [] }

/-- With the fields in their values, position 0 and its BLOCK input decide. -/
theorem doAssign_fields {s : State} {serial : List Byte} {v : Byte} (hline : s.isq.line ≠ .unconfigured)
    (hgood : serialOk serial = true ∧ v.toNat ≤ 7) :
    s.doAssign serial v =
      if s.assignable = false then s.refuse .wrongState
      else if (s.image 0).block = false then s.refuse .noBlock
      else
        (.ok [], (match s.palletAt 0 with
          | none => s
          | some id => s.modRecord id fun r => { r with block := some (.assigned serial v) }).loadReady.judgeReady) := by
  have hcheck : ¬((!serialOk serial) = true ∨ 7 < v.toNat) := by
    rw [hgood.1]; have := hgood.2; simp; omega
  rw [State.doAssign, if_neg hline, if_neg hcheck]
  simp only [Bool.not_eq_true', Block.assigned] <;> rfl

theorem doEmpty_refused {s : State}
    (h : s.isq.line = .unconfigured ∨ s.assignable = false ∨ (s.image 0).block = true) :
    s.doEmpty = s.refuse .wrongState := by
  simp only [State.doEmpty, Bool.not_eq_true']
  by_cases hline : s.isq.line = .unconfigured
  · exact if_pos hline
  · rw [if_neg hline]
    by_cases hassign : s.assignable = false
    · exact if_pos hassign
    · rw [if_neg hassign]
      exact if_pos ((h.resolve_left hline).resolve_left hassign)

theorem doEmpty_ok {s : State} (hline : s.isq.line ≠ .unconfigured) (hassign : s.assignable = true)
    (hblock : (s.image 0).block = false) : s.doEmpty = (.ok [], s.loadReady.judgeReady) := by
  simp [State.doEmpty, hline, hassign, hblock]

/-- What an accepted BLOCK ASSIGN or BLOCK EMPTY leaves outside RUNNING, from the state `w` with the block written. -/
theorem answered_loadReady_of_not_running {w : State} {kind tag : Byte} (hline : w.isq.line ≠ .running) :
    ∃ d c, (w.loadReady.judgeReady).answered kind tag (.ok []) =
        { w with
          fdu := { w.fdu with state := .ready, loadWait := none }
          prg := { w.prg with disagreement := d }
          clu := c } ∧
      c.replySlot.map Reply.answer = some (.ok []) := by
  obtain ⟨d, c, hready⟩ := loadReady_eq w
  have hstay : w.loadReady.isq.line ≠ .running := by rw [hready]; exact hline
  obtain ⟨c', hanswered, hslot⟩ := answered_eq kind tag (.ok []) w.loadReady
  refine ⟨d, c', ?_, by rw [hslot]; rfl⟩
  rw [judgeReady_of_not_running hstay, hanswered, hready]

/-- The effect of both requests on a waiting pallet outside RUNNING, and the input that refuses each. -/
theorem blockAssignAndEmpty_waiting (s : State) (tag : Byte) (serial : List Byte) (v : Byte) (id : Nat) (hfree : s.Free)
    (hline : s.isq.line ≠ .unconfigured) (hserial : serialOk serial = true) (hv : v.toNat ≤ 7)
    (hstate : s.fdu.state = .awaitingBlock) (hpallet : s.palletAt 0 = some id) :
    ((s.image 0).block = false →
      exec (.blockAssign tag serial v) s = .next (s.answered 0x13 tag (.refused .noBlock []))) ∧
    ((s.image 0).block = true → s.isq.line ≠ .running →
      ∃ d c, exec (.blockAssign tag serial v) s = .next
          { s with
            prg := { s.prg with
              records := s.prg.records.map fun x =>
                if x.id = id then { x with block := some (.assigned serial v) } else x
              disagreement := d }
            fdu := { s.fdu with state := .ready, loadWait := none }
            clu := c } ∧
        c.replySlot.map Reply.answer = some (.ok [])) ∧
    ((s.image 0).block = true → exec (.blockEmpty tag) s = .next (s.answered 0x14 tag (.refused .wrongState []))) ∧
    ((s.image 0).block = false → s.isq.line ≠ .running →
      ∃ d c, exec (.blockEmpty tag) s = .next
          { s with
            prg := { s.prg with disagreement := d }
            fdu := { s.fdu with state := .ready, loadWait := none }
            clu := c } ∧
        c.replySlot.map Reply.answer = some (.ok [])) := by
  have hfits : serial.length ≤ 238 := by
    obtain ⟨-, hle, -⟩ := (serialOk_iff serial).mp hserial
    omega
  have hassign : s.assignable = true := (assignable_iff s).mpr (.inl hstate)
  have hdo := doAssign_fields (v := v) hline ⟨hserial, hv⟩
  simp only [hassign, hpallet, Bool.true_eq_false, if_false] at hdo
  refine ⟨?_, ?_, ?_, ?_⟩
  · intro hblock
    simp only [hblock, if_true] at hdo
    exact exec_blockAssign hfree hfits hdo
  · intro hblock hrun
    simp only [hblock, Bool.true_eq_false, if_false] at hdo
    obtain ⟨d, c, hdone, hslot⟩ := answered_loadReady_of_not_running (kind := 0x13) (tag := tag)
      (w := s.modRecord id fun r => { r with block := some (.assigned serial v) }) hrun
    exact ⟨d, c, (exec_blockAssign hfree hfits hdo).trans (congrArg _ hdone), hslot⟩
  · intro hblock
    exact exec_blockEmpty hfree (doEmpty_refused (.inr (.inr hblock)))
  · intro hblock hrun
    obtain ⟨d, c, hdone, hslot⟩ := answered_loadReady_of_not_running (kind := 0x14) (tag := tag) hrun
    exact ⟨d, c, (exec_blockEmpty hfree (doEmpty_ok hline hassign hblock)).trans (congrArg _ hdone), hslot⟩

/-- Settles O35: the checks of both requests in their order, and their one effect, in every line state. -/
theorem blockAssignAndEmpty : Obligations.BlockAssignAndEmpty := by
  refine ⟨?_, ?_⟩
  · intro s tag serial v id hfree hline hserial hv hstate hpallet
    obtain ⟨hnoBlock, hassigned, hrefused, hemptied⟩ :=
      blockAssignAndEmpty_waiting s tag serial v id hfree hline hserial hv hstate hpallet
    refine ⟨hnoBlock, ?_, hrefused, ?_⟩
    · intro hblock hrun
      obtain ⟨d, c, hexec, hslot⟩ := hassigned hblock hrun
      exact ⟨_, hexec, rfl, rfl, rfl, rfl, rfl, rfl, rfl, rfl, rfl, rfl, rfl, rfl, hslot⟩
    · intro hblock hrun
      obtain ⟨d, c, hexec, hslot⟩ := hemptied hblock hrun
      exact ⟨_, hexec, rfl, rfl, rfl, rfl, rfl, rfl, rfl, rfl, rfl, rfl, rfl, rfl, hslot⟩
  · intro s tag serial v may good answer hfree hmay hgood hanswer
    have hmay' : s.assignable = true ↔ may := (assignable_iff s).trans hmay.symm
    have hgood' : (serialOk serial = true ∧ v.toNat ≤ 7) ↔ good := by
      rw [serialOk_iff, hgood]; simp only [and_assoc]
    have hnot : ¬may → s.assignable = false := fun h => by simpa [← hmay'] using h
    have hfitsGood : good → serial.length ≤ 238 := fun h => by
      obtain ⟨-, hle, -⟩ := hgood.mp h
      omega
    simp only [hanswer]
    refine ⟨exec_blockAssign_long hfree, ?_, ?_, ?_, fun y => toLoad_ready_of_ready⟩
    · intro hfits
      refine ⟨fun hline => exec_blockAssign hfree hfits (doAssign_wrongState hline), fun hline => ⟨?_, ?_, ?_⟩⟩
      · intro hbad
        exact exec_blockAssign hfree hfits (doAssign_badField hline (mt hgood'.mp hbad))
      · intro hok hmayNot
        refine exec_blockAssign hfree hfits ?_
        rw [doAssign_fields hline (hgood'.mpr hok), if_pos (hnot hmayNot)]
        rfl
      · intro hok hcan hblock
        refine exec_blockAssign hfree hfits ?_
        rw [doAssign_fields hline (hgood'.mpr hok), if_neg (by simp [hmay'.mpr hcan]), if_pos hblock]
        rfl
    · intro hrefuse
      exact exec_blockEmpty hfree (doEmpty_refused (hrefuse.imp_right (.imp_left hnot)))
    · intro hline hcan fin hfin
      obtain rfl : fin = fun y => y.loadReady.judgeReady := funext fun y => (hfin y).trans rfl
      refine ⟨fun hblock => exec_blockEmpty hfree (doEmpty_ok hline (hmay'.mpr hcan) hblock), ?_⟩
      intro id hok hblock hpallet
      refine exec_blockAssign hfree (hfitsGood hok) ?_
      rw [doAssign_fields hline (hgood'.mpr hok), if_neg (by simp [hmay'.mpr hcan]), if_neg (by simp [hblock]), hpallet]
      rfl

end Sys2Proof.Machine
end

section
/-! Proofs of the statement on the station units: the SEATED decision, the end of VERIFY, the changes between two images
of a station, and the faults they bring. -/

namespace Sys2Proof.Machine

/-! ## What a halt leaves of the station units (R64, R65) -/

@[simp] theorem report_stu (r : Report) (s : State) : (s.report r).stu = s.stu := rfl

@[simp] theorem reportLine_stu (why : LineReason) (s : State) : (s.reportLine why).stu = s.stu := rfl

@[simp] theorem modBank_stu (id : BankId) (f : Bank → Bank) (s : State) : (s.modBank id f).stu = s.stu := by
  cases id <;> rfl

@[simp] theorem camEnd_stu (s : State) : s.camEnd.stu = s.stu := rfl

@[simp] theorem countTrial_stu (o : TrialOutcome) (s : State) : (s.countTrial o).stu = s.stu := rfl

@[simp] theorem reportUnfired_stu (r : TrialRecord) (s : State) : (s.reportUnfired r).stu = s.stu := by
  unfold State.reportUnfired
  generalize (s.cam.bank r.bank).indexed.filter _ = l
  induction l generalizing s with
  | nil => rfl
  | cons e l ih => rw [List.foldl_cons, ih]; rfl

@[simp] theorem endTrial_stu (e : TrialEnding) (s : State) : (s.endTrial e).stu = s.stu := by
  unfold State.endTrial
  split
  · rfl
  · simp

@[simp] theorem finishQuick_stu (q : QuickStop) (s : State) : (s.finishQuick q).stu = s.stu := by
  unfold State.finishQuick
  split
  · rfl
  · exact endTrial_stu _ _

@[simp] theorem startQuick_stu (e : TrialEnding) (off : Bool) (p : Plan) (s : State) :
    (s.startQuick e off p).stu = s.stu := by
  simp only [State.startQuick]
  split
  · exact finishQuick_stu _ _
  · rfl

@[simp] theorem quickStop_stu (e : TrialEnding) (off : Bool) (s : State) : (s.quickStop e off).stu = s.stu := by
  unfold State.quickStop
  split
  · split <;> rfl
  · rfl
  · exact startQuick_stu _ _ _ _
  · rfl

@[simp] theorem endPhaseWork_stu (s : State) : s.endPhaseWork.stu = s.stu := by
  obtain ⟨-, -, -, -, -, -, h, -⟩ := endPhaseWork_leaves s
  exact h

@[simp] theorem enterHalted_stu (c : Cause) (l : List Nat) (s : State) : (s.enterHalted c l).stu = s.stu := by
  unfold State.enterHalted
  split
  · rfl
  · simp

@[simp] theorem addCause_stu (c : Cause) (l : List Nat) (s : State) : (s.addCause c l).stu = s.stu := by
  unfold State.addCause
  split
  · rfl
  · split <;> rfl

/-- A halt cause is no affair of the station units. -/
@[simp] theorem raiseCause_stu (c : Cause) (l : List Nat) (s : State) : (s.raiseCause c l).stu = s.stu := by
  unfold State.raiseCause
  split
  · exact enterHalted_stu c l s
  · split
    · exact addCause_stu c l s
    · rfl

theorem unit_congr {s t : State} (h : s.stu = t.stu) (k : Nat) : s.unit k = t.unit k := by
  simp only [State.unit, h]

@[simp] theorem unit_raiseCause (c : Cause) (l : List Nat) (s : State) (k : Nat) : (s.raiseCause c l).unit k = s.unit k :=
  unit_congr (raiseCause_stu c l s) k

@[simp] theorem unit_report (r : Report) (s : State) (k : Nat) : (s.report r).unit k = s.unit k := rfl

/-! ## One unit -/

theorem modUnit_eq (k : Nat) (f : StationUnit → StationUnit) (s : State) :
    ∃ l, s.modUnit k f = { s with stu := l } := by
  cases k <;> exact ⟨_, rfl⟩

/-- What a change leaves of every unit it leaves of the unit of a station, one beyond the units included. -/
theorem unit_modUnit_of_kept {α : Type} (g : StationUnit → α) {f : StationUnit → StationUnit} (h : ∀ u, g (f u) = g u)
    (s : State) (k : Nat) : g ((s.modUnit k f).unit k) = g (s.unit k) := by
  cases k with
  | zero => rfl
  | succ j =>
    simp only [State.unit, State.modUnit, State.modStu, Nat.add_sub_cancel, List.getElem?_modify, if_true]
    cases s.stu[j]? with
    | none => rfl
    | some u => exact h u

/-- A unit that is not IDLE is one of the units. -/
theorem unit_ne_initial_of_kind {s : State} {k : Nat} (h : (s.unit k).config.kind ≠ .idle) :
    s.unit k ≠ StationUnit.initial := fun e => h (by rw [e]; rfl)

@[simp] theorem palletAt_modUnit (k p : Nat) (f : StationUnit → StationUnit) (s : State) :
    (s.modUnit k f).palletAt p = s.palletAt p := by
  obtain ⟨l, h⟩ := modUnit_eq k f s
  rw [h]
  rfl

/-! ## The SEATED decision (R28, R76, R77) -/

section Decision

variable {s : State} {k id : Nat} {x : Block}

theorem decide_noPallet (hpallet : s.palletAt k = none) : s.decide k .start = s.setUnitState k .vacant := by
  simp only [State.decide, hpallet]

theorem decide_idle (hpallet : s.palletAt k = some id) (hkind : (s.unit k).config.kind = .idle) :
    s.decide k .start = s.setUnitState k .vacant := by
  simp only [State.decide, hpallet, hkind, if_true]

theorem decide_noBlock (hpallet : s.palletAt k = some id) (hkind : (s.unit k).config.kind ≠ .idle)
    (hblock : s.blockAt k = none) : s.decide k .start = s.setUnitState k .complete := by
  simp only [State.decide, hpallet, hkind, hblock, if_false]

/-- No program, a locked block or an entry of this station: nothing is done. -/
theorem decide_nothing (hpallet : s.palletAt k = some id) (hkind : (s.unit k).config.kind ≠ .idle)
    (hblock : s.blockAt k = some x) (h : s.program x.variant k = 0 ∨ x.lock = true ∨ x.logged k = true) :
    s.decide k .start = s.setUnitState k .complete := by
  simp only [State.decide, hpallet, hkind, hblock, if_false, h, if_true]

/-- With a program to do on a block that may take it, the disposition and the service decide. -/
theorem decide_program (hpallet : s.palletAt k = some id) (hkind : (s.unit k).config.kind ≠ .idle)
    (hblock : s.blockAt k = some x) (hprogram : s.program x.variant k ≠ 0) (hlock : x.lock = false)
    (hlogged : x.logged k = false) :
    s.decide k .start =
      if x.disposition = .reject ∨ (s.unit k).inService = false then
        (s.append k (s.program x.variant k) .skipped).1.setUnitState k .complete
      else s.startOperation k id (s.program x.variant k) x.serial := by
  simp only [State.decide, hpallet, hkind, hblock, hprogram, hlock, hlogged, Bool.false_eq_true, or_self, if_false,
    Bool.not_eq_true']

end Decision

/-! ## The end of VERIFY (R76) -/

theorem endOfVerify_finished {s : State} {k : Nat} (h : (s.unit k).state = .vacant ∨ (s.unit k).state = .complete) :
    s.endOfVerify k = s.decide k .start := by
  obtain h | h := h <;> simp only [State.endOfVerify, h]

/-- A faulted unit moves its resume. -/
theorem endOfVerify_faulted {s : State} {k : Nat} {f : FaultRecord} (hstate : (s.unit k).state = .faulted)
    (hfault : (s.unit k).fault = some f) :
    s.endOfVerify k = s.modUnit k fun u => { u with fault := some { f with
      resume := if s.palletAt k ≠ none ∧ (s.unit k).config.kind ≠ .idle then .decision else .vacant } } := by
  simp only [State.endOfVerify, hstate, Option.isSome_iff_ne_none]
  exact modUnit_congr _ _ _ _ (by simp only [hfault, Option.map_some])

/-! ## Faults (R83, R85, R89) -/

/-- The fault record of a fault newly taken, its resume by the state it is taken in (R83). -/
theorem takeFault_eq (c : FaultCause) :
    StationUnit.takeFault c = fun v => { v with
      state := .faulted, stage1 := none, stage2 := none, restartWait := false
      fault := some
        { cause := c, clampLost := c == .clampLoss, doneWhileFaulted := false, reclamp := false
          resume := match v.state with
            | .vacant => .vacant
            | .complete => .complete
            | .working | .late => .operation
            | .abandoning => .abandon
            | .seated | .faulted => .decision } } := by
  funext v
  have hresume : v.state.resume = match v.state with
      | .vacant => .vacant
      | .complete => .complete
      | .working | .late => .operation
      | .abandoning => .abandon
      | .seated | .faulted => .decision := by cases v.state <;> rfl
  rw [StationUnit.takeFault, hresume]

theorem unitFault_new {s : State} {k : Nat} {c : FaultCause} (h : (s.unit k).state ≠ .faulted) :
    s.unitFault k c = (s.modUnit k (StationUnit.takeFault c)).report
      (.stationFault k c (s.unit k).state (s.palletAt k) ((s.unit k).operation.map Operation.program) false) := by
  simp only [State.unitFault, h, if_false, State.reportFault, palletAt_modUnit,
    unit_modUnit_of_kept StationUnit.operation (f := StationUnit.takeFault c) (fun _ => rfl)]

theorem unitFault_add {s : State} {k : Nat} {c : FaultCause} {f : FaultRecord} (hstate : (s.unit k).state = .faulted)
    (hfault : (s.unit k).fault = some f) :
    s.unitFault k c = (s.modUnit k fun v => { v with fault := some (f.add c) }).report
      (.stationFault k c .faulted (s.palletAt k) ((s.unit k).operation.map Operation.program) true) := by
  have hadd : s.modUnit k (fun x => { x with fault := x.fault.map (FaultRecord.add c) }) =
      s.modUnit k fun v => { v with fault := some (f.add c) } :=
    modUnit_congr _ _ _ _ (by simp only [hfault, Option.map_some])
  simp only [State.unitFault, hstate, if_true, State.reportFault, hadd, palletAt_modUnit,
    unit_modUnit_of_kept StationUnit.operation (f := fun v => { v with fault := some (f.add c) }) (fun _ => rfl)]

/-- A fault leaves a unit of the line FAULTED. -/
theorem state_unitFault {s : State} {k : Nat} (c : FaultCause) (hk : 1 ≤ k) (hkind : (s.unit k).config.kind ≠ .idle) :
    ((s.unitFault k c).unit k).state = .faulted := by
  have hunit := unit_ne_initial_of_kind hkind
  by_cases h : (s.unit k).state = .faulted
  · simp only [State.unitFault, h, if_true, State.reportFault, unit_report, unit_modUnit s k _ hk hunit]
  · rw [unitFault_new h, unit_report, unit_modUnit s k _ hk hunit]
    rfl

theorem runningIn_iff (s : State) (f : Phase → Bool) :
    s.runningIn f = true ↔ ∃ ph, f ph = true ∧ s.isq.line = .running ∧ s.isq.phase = some ph := by
  simp only [State.runningIn, Bool.and_eq_true, beq_iff_eq, Option.any_eq_true]
  exact ⟨fun ⟨hline, ph, hphase, hf⟩ => ⟨ph, hf, hline, hphase⟩, fun ⟨ph, hf, hline, hphase⟩ => ⟨hline, ph, hphase, hf⟩⟩

theorem haltPhase_eq_some_iff (s : State) (ph : Phase) :
    s.haltPhase = some ph ↔ s.isq.line = .halted ∧ s.isq.haltRecord.map HaltRecord.phase = some ph := by
  unfold State.haltPhase
  split <;> simp_all

/-- RELEASE to LOWER, in hand or at the halt (R85). -/
theorem barPhase_iff (s : State) :
    s.barPhase = true ↔ ∃ ph ∈ [Phase.release, .withdraw, .lift, .advance, .lower],
      (s.isq.line = .running ∧ s.isq.phase = some ph) ∨
        (s.isq.line = .halted ∧ s.isq.haltRecord.map HaltRecord.phase = some ph) := by
  have hbar (ph : Phase) : ph.barMayBeUp = true ↔ ph ∈ [Phase.release, .withdraw, .lift, .advance, .lower] := by
    cases ph <;> decide
  simp only [State.barPhase, Bool.or_eq_true, runningIn_iff, Option.any_eq_true, haltPhase_eq_some_iff, hbar]
  constructor
  · rintro (⟨ph, hmem, h⟩ | ⟨ph, h, hmem⟩)
    · exact ⟨ph, hmem, .inl h⟩
    · exact ⟨ph, hmem, .inr h⟩
  · rintro ⟨ph, hmem, h | h⟩
    · exact .inl ⟨ph, hmem, h⟩
    · exact .inr ⟨ph, h, hmem⟩

/-- A HOME drop outside the station's work, the bar at rest or not (R85). -/
theorem toolMoved_eq (s : State) (k : Nat) :
    s.toolMoved k =
      if s.barPhase = true then (s.unitFault k .toolMoved).raiseCause .toolMoved [k] else s.unitFault k .toolMoved :=
  rfl

theorem state_toolMoved {s : State} {k : Nat} (hk : 1 ≤ k) (hkind : (s.unit k).config.kind ≠ .idle) :
    ((s.toolMoved k).unit k).state = .faulted := by
  rw [toolMoved_eq]
  split
  · rw [unit_raiseCause]
    exact state_unitFault .toolMoved hk hkind
  · exact state_unitFault .toolMoved hk hkind

/-! ## The changes of DONE and HOME (R78, R79, R82, R85) -/

/-- DONE rises. -/
abbrev doneRises (old new : InputImage) : Prop := old.done = false ∧ new.done = true

/-- HOME rises. -/
abbrev homeRises (old new : InputImage) : Prop := old.home = false ∧ new.home = true

/-- HOME drops. -/
abbrev homeDrops (old new : InputImage) : Prop := old.home = true ∧ new.home = false

/-- What a unit makes of DONE once HOME has been taken; `odd` says that a DONE of a unit at rest is unexpected. -/
def State.judgeDone (k : Nat) (old new : InputImage) (odd : Bool) (s : State) : State :=
  match (s.unit k).state with
  | .working | .late => s.judgeCompletion k old new
  | .vacant | .complete | .faulted => if odd then s.unexpectedDone k new else s
  | .abandoning => if doneRises old new then s.unexpectedDone k new else s
  | .seated => s

section HomeDone

variable {s t : State} {k : Nat} {old new : InputImage}

/-- Where HOME ends no abandon, DONE is judged in the state the HOME drop leaves (log 9). -/
theorem homeDone_of_not_ended (hdrop : (if homeDrops old new then s.homeDrop k else s) = t)
    (hend : ¬(homeRises old new ∧ (t.unit k).state = .abandoning)) :
    s.homeDone k old new =
      t.judgeDone k old new (decide (doneRises old new ∨ (homeRises old new ∧ new.done = true))) := by
  have habandoned : (!old.home && new.home && (t.unit k).state == .abandoning) = false := by
    simpa using hend
  have hodd : ((!old.done && new.done) || (!old.home && new.home && new.done && !false)) =
      decide (doneRises old new ∨ (homeRises old new ∧ new.done = true)) := by
    simp [Bool.and_assoc]
  have hdrop' : (if old.home = true ∧ (!new.home) = true then s.homeDrop k else s) = t := by simpa using hdrop
  simp only [State.homeDone, hdrop', habandoned, hodd, Bool.false_eq_true, if_false, State.judgeDone]
  cases (t.unit k).state <;> simp

/-- HOME ends an abandon, then DONE is judged; DONE with that HOME is not unexpected of itself. -/
theorem homeDone_of_ended (hstate : (s.unit k).state = .abandoning) (hrise : homeRises old new) :
    s.homeDone k old new = (s.endAbandon k).judgeDone k old new (decide (doneRises old new)) := by
  have hdrop : (if old.home = true ∧ (!new.home) = true then s.homeDrop k else s) = s := by
    simp [hrise.1]
  have habandoned : (!old.home && new.home && (s.unit k).state == .abandoning) = true := by
    simp [hrise.1, hrise.2, hstate]
  have hodd : ((!old.done && new.done) || (!old.home && new.home && new.done && !true)) =
      decide (doneRises old new) := by simp
  simp only [State.homeDone, hdrop, habandoned, hodd, if_true, State.judgeDone]
  cases ((s.endAbandon k).unit k).state <;> simp

/-- With no edge of HOME or DONE and no completion to judge, nothing is done. -/
theorem homeDone_same (hhome : old.home = new.home) (hdone : old.done = new.done)
    (hidle : ¬(((s.unit k).state = .working ∨ (s.unit k).state = .late) ∧ new.done = true)) :
    s.homeDone k old new = s := by
  have hrise : ¬homeRises old new := by rintro ⟨h0, h1⟩; simp_all
  have hdrop : ¬homeDrops old new := by rintro ⟨h1, h0⟩; simp_all
  have hdoneRise : ¬doneRises old new := by rintro ⟨h0, h1⟩; simp_all
  rw [homeDone_of_not_ended (if_neg hdrop) fun h => hrise h.1]
  cases hstate : (s.unit k).state <;> simp_all [State.judgeDone, State.judgeCompletion]

end HomeDone

/-! ### WORKING and LATE (R78) -/

section Operating

variable {s : State} {k : Nat} {old new : InputImage}

/-- An operation in WORKING or LATE has DONE and HOME judged, whatever HOME did. -/
theorem homeDone_operating (h : (s.unit k).state = .working ∨ (s.unit k).state = .late) :
    s.homeDone k old new = s.judgeCompletion k old new := by
  have hdrop : s.homeDrop k = s := by obtain h | h := h <;> simp only [State.homeDrop, h]
  have hend : (s.unit k).state ≠ .abandoning := by obtain h | h := h <;> simp [h]
  rw [homeDone_of_not_ended (by rw [hdrop, ite_self]) fun e => hend e.2]
  obtain h | h := h <;> simp only [State.judgeDone, h]

/-- The result of a completion by the kind and PASS (R78). -/
theorem completionResult_eq (kind : Kind) (pass : Bool) :
    completionResult kind pass = if kind = .gauge then (if pass = true then .pass else .fail) else .done := by
  cases kind <;> rfl

theorem judgeCompletion_completes {o : Operation} (hdone : new.done = true) (hhome : new.home = true)
    (hop : (s.unit k).operation = some o) (hoff : o.doneSeenOff = true) (hwait : (s.unit k).restartWait = false) :
    s.judgeCompletion k old new = s.endOperation k o (completionResult (s.unit k).config.kind (s.image k).pass) := by
  simp [State.judgeCompletion, State.completeOperation, hdone, hhome, hop, hoff, hwait]

/-- DONE seen off is noted (R74, R78). -/
theorem judgeCompletion_doneDrops (hold : old.done = true) (hnew : new.done = false) :
    s.judgeCompletion k old new =
      s.modUnit k fun v => { v with operation := v.operation.map fun x => { x with doneSeenOff := true } } := by
  simp [State.judgeCompletion, hold, hnew]

theorem judgeCompletion_nothing {o : Operation} (hop : (s.unit k).operation = some o)
    (hdrop : ¬(old.done = true ∧ new.done = false))
    (hopen : ¬(new.done = true ∧ new.home = true ∧ o.doneSeenOff = true ∧ (s.unit k).restartWait = false)) :
    s.judgeCompletion k old new = s := by
  have hdrop' : ¬(old.done = true ∧ (!new.done) = true) := by simpa using hdrop
  have hopen' : ¬(new.done = true ∧ new.home = true ∧ (s.unit k).operation.any (fun o => o.doneSeenOff) = true ∧
      (!(s.unit k).restartWait) = true) := by simpa [hop] using hopen
  simp only [State.judgeCompletion, hdrop', if_false]
  exact if_neg hopen'

end Operating

/-! ### VACANT, COMPLETE, FAULTED (R79, R85) -/

section Resting

variable {s : State} {k : Nat} {old new : InputImage}

/-- With no HOME drop to take, a unit at rest finds DONE unexpected or nothing (R79; log 20). -/
theorem homeDone_resting
    (hstate : (s.unit k).state = .vacant ∨ (s.unit k).state = .complete ∨ (s.unit k).state = .faulted)
    (hdrop : homeDrops old new → s.homeDrop k = s) :
    s.homeDone k old new =
      if doneRises old new ∨ (old.home = false ∧ new.home = true ∧ new.done = true) then s.unexpectedDone k new
      else s := by
  have hend : (s.unit k).state ≠ .abandoning := by obtain h | h | h := hstate <;> simp [h]
  have hkeep : (if homeDrops old new then s.homeDrop k else s) = s := by
    split
    case isTrue h => exact hdrop h
    case isFalse => rfl
  rw [homeDone_of_not_ended hkeep fun e => hend e.2]
  obtain h | h | h := hstate <;> simp only [State.judgeDone, h, decide_eq_true_eq, and_assoc]

/-- The unexpected DONE of a unit that is not FAULTED is reported. -/
theorem unexpectedDone_of_not_faulted (h : (s.unit k).state ≠ .faulted) :
    s.unexpectedDone k new = s.report (.unexpectedDone k (s.unit k).state) := by
  simp only [State.unexpectedDone, h, false_and, if_false]

/-- A FAULTED unit also notes the interrupted operation that is seen finished. -/
theorem unexpectedDone_of_faulted {f : FaultRecord} (hstate : (s.unit k).state = .faulted)
    (hfault : (s.unit k).fault = some f) :
    s.unexpectedDone k new =
      (s.report (.unexpectedDone k .faulted)).modUnit k fun v => { v with
        fault := some { f with
          doneWhileFaulted := f.doneWhileFaulted || (new.home && new.done && f.resume == .operation) } } := by
  simp only [State.unexpectedDone, hstate, true_and]
  split
  case isTrue h =>
    refine modUnit_congr _ _ _ _ ?_
    simp only [unit_report, hfault, Option.map_some, h.1, h.2]
    by_cases hresume : f.resume = .operation
    · simp [hresume]
    · simp [hresume, beq_eq_false_iff_ne.mpr hresume]
  case isFalse h =>
    refine (modUnit_id _ _ _ ?_).symm
    have hseen : (new.home && new.done) = false := by simpa using h
    simp only [unit_report, hseen, Bool.false_and, Bool.or_false, ← hfault]

/-- HOME is the tool's own in a fault that interrupts the operation or the abandon (R79). -/
theorem homeDrop_of_interrupted {f : FaultRecord} (hstate : (s.unit k).state = .faulted)
    (hfault : (s.unit k).fault = some f) (hresume : f.resume = .operation ∨ f.resume = .abandon) :
    s.homeDrop k = s := by
  simp [State.homeDrop, hstate, hfault, hresume]

/-- In VACANT and COMPLETE, and in a fault with nothing in hand, a HOME drop is a moved tool (R85). -/
theorem homeDrop_of_resting
    (h : (s.unit k).state = .vacant ∨ (s.unit k).state = .complete ∨ ((s.unit k).state = .faulted ∧
      ∃ f, (s.unit k).fault = some f ∧ f.resume ≠ .operation ∧ f.resume ≠ .abandon)) :
    s.homeDrop k = s.toolMoved k := by
  obtain h | h | ⟨h, f, hfault, hop, hab⟩ := h
  · simp only [State.homeDrop, h]
  · simp only [State.homeDrop, h]
  · simp [State.homeDrop, h, hfault, hop, hab]

theorem homeDone_toolMoved (hk : 1 ≤ k) (hkind : (s.unit k).config.kind ≠ .idle)
    (hdrop : s.homeDrop k = s.toolMoved k) (hhome : homeDrops old new) (hdone : old.done = new.done) :
    s.homeDone k old new = s.toolMoved k := by
  have hstate := state_toolMoved hk hkind
  have hrise : ¬homeRises old new := by rintro ⟨h0, h1⟩; simp_all
  have hdoneRise : ¬doneRises old new := by rintro ⟨h0, h1⟩; simp_all
  rw [homeDone_of_not_ended (t := s.toolMoved k) ((if_pos hhome).trans hdrop) fun e => hrise e.1]
  simp only [State.judgeDone, hstate, hrise, hdoneRise, false_and, or_self, decide_false, Bool.false_eq_true, if_false]

end Resting

/-! ### ABANDONING (R79, R82) -/

section Abandoning

variable {s : State} {k : Nat} {old new : InputImage}

/-- An abandon that HOME does not end finds DONE unexpected or nothing (R79). -/
theorem homeDone_abandoning_goes_on (hstate : (s.unit k).state = .abandoning) (hrise : ¬homeRises old new) :
    s.homeDone k old new =
      if doneRises old new then s.report (.unexpectedDone k .abandoning) else s := by
  have hdrop : s.homeDrop k = s := by simp only [State.homeDrop, hstate]
  rw [homeDone_of_not_ended (by rw [hdrop, ite_self]) fun e => hrise e.1]
  simp only [State.judgeDone, hstate, unexpectedDone_of_not_faulted (s := s) (k := k) (new := new) (by simp [hstate])]

theorem endAbandon_pending {o : Operation} {r : LogResult} (hop : (s.unit k).operation = some o)
    (hresult : o.result = some r) : s.endAbandon k = s.endOperation k o r := by
  simp only [State.endAbandon, hop, hresult]

theorem endAbandon_interrupted {o : Operation} (hop : (s.unit k).operation = some o) (hresult : o.result = none) :
    s.endAbandon k =
      (s.report (.operationEnd k o.pallet o.program .interrupted (elapsedSince o.start s.timeBase)
        o.interruptTaken)).modUnit k StationUnit.finish := by
  simp only [State.endAbandon, hop, hresult]

/-- The end of an abandon leaves a unit of the line COMPLETE. -/
theorem state_endAbandon (hk : 1 ≤ k) (hkind : (s.unit k).config.kind ≠ .idle) :
    ((s.endAbandon k).unit k).state = .complete := by
  have hfinish {t : State} (h : t.stu = s.stu) : ((t.modUnit k StationUnit.finish).unit k).state = .complete := by
    rw [unit_modUnit t k _ hk (by rw [unit_congr h]; exact unit_ne_initial_of_kind hkind)]
    rfl
  unfold State.endAbandon
  split
  · exact hfinish rfl
  · split
    · exact hfinish (append_leaves s k _ _).1
    · exact hfinish rfl

theorem homeDone_abandoning_ends (hk : 1 ≤ k) (hkind : (s.unit k).config.kind ≠ .idle)
    (hstate : (s.unit k).state = .abandoning) (hrise : homeRises old new) (hdone : ¬doneRises old new) :
    s.homeDone k old new = s.endAbandon k := by
  rw [homeDone_of_ended hstate hrise]
  simp only [State.judgeDone, state_endAbandon hk hkind, hdone, decide_false, Bool.false_eq_true, if_false]

end Abandoning

/-! ## FLT, CLAMPED, and the one event of a station node (R84, R86, R180) -/

section UnitInputs

variable {s : State} {k : Nat} {old new : InputImage}

theorem fltChange_of_not_rising (h : ¬(old.flt = false ∧ new.flt = true)) : s.fltChange k old new = s := by
  simp only [State.fltChange, Bool.not_eq_true', h, if_false]

theorem fltChange_of_rising (hold : old.flt = false) (hnew : new.flt = true) :
    s.fltChange k old new = s.unitFault k .fltInput := by
  simp only [State.fltChange, hold, hnew, Bool.not_false, and_self, if_true]

theorem clampedDrop_of_not_dropping (h : ¬(old.clamped = true ∧ new.clamped = false)) :
    s.clampedDrop k old new = s := by
  refine if_neg fun ⟨hold, hnew, _⟩ => h ⟨hold, ?_⟩
  simpa using hnew

theorem clampedDrop_of_dropping (hold : old.clamped = true) (hnew : new.clamped = false) :
    s.clampedDrop k old new =
      if (s.unit k).clampWatch = true ∧ s.palletAt k ≠ none then s.unitFault k .clampLoss else s := by
  simp only [State.clampedDrop, hold, hnew, Bool.not_false, true_and, Option.isSome_iff_ne_none]

/-- An IDLE station takes none of the changes (R79, R84). -/
theorem unitInputs_idle (h : (s.unit k).config.kind = .idle) : s.unitInputs k old new = s := if_pos h

theorem unitInputs_eq (h : (s.unit k).config.kind ≠ .idle) :
    s.unitInputs k old new = ((s.homeDone k old new).fltChange k old new).clampedDrop k old new := if_neg h

/-- With FLT and CLAMPED as they were, HOME and DONE are all there is to judge. -/
theorem unitInputs_homeDone (hkind : (s.unit k).config.kind ≠ .idle) (hflt : ¬(old.flt = false ∧ new.flt = true))
    (hclamped : ¬(old.clamped = true ∧ new.clamped = false)) : s.unitInputs k old new = s.homeDone k old new := by
  rw [unitInputs_eq hkind, fltChange_of_not_rising hflt, clampedDrop_of_not_dropping hclamped]

end UnitInputs

/-! ## The statement -/

/-- Settles O50: the orders of the decision, the end of VERIFY, then the changes of a station by the state of its unit, each
through the equation of the function that judges it. -/
theorem seatedDecisionByItsOrders : Obligations.SeatedDecisionByItsOrders := by
  intro s k
  refine ⟨decide_noPallet, fun id => decide_idle, fun id => decide_noBlock, fun id x => decide_nothing, ?_, ?_,
    fun _ => ⟨endOfVerify_finished, fun f => endOfVerify_faulted⟩, ?_⟩
  · intro id x hpallet hkind hblock hprogram hlock hlogged hskip
    rw [decide_program hpallet hkind hblock hprogram hlock hlogged, if_pos hskip]
    rfl
  · intro id x hpallet hkind hblock hprogram hlock hlogged hreject hservice
    have hgo : ¬(x.disposition = .reject ∨ (s.unit k).inService = false) := by simp [hreject, hservice]
    rw [decide_program hpallet hkind hblock hprogram hlock hlogged, if_neg hgo]
    rfl
  · rintro old new u barUp hk rfl rfl hbarUp
    refine ⟨unitInputs_idle, ?_, ?_, ?_⟩
    · intro hkind hflt hclamped
      rw [unitInputs_homeDone hkind hflt hclamped]
      refine ⟨?_, ?_, ?_, ?_, ?_⟩
      · intro o r hstate hop
        rw [homeDone_operating hstate]
        refine ⟨?_, judgeCompletion_doneDrops, judgeCompletion_nothing hop⟩
        rintro hdone hhome hoff hwait rfl
        rw [judgeCompletion_completes hdone hhome hop hoff hwait, completionResult_eq]
        rfl
      · intro hstate hnoDrop
        rw [homeDone_resting (hstate.imp_right .inl) fun h => absurd h hnoDrop,
          unexpectedDone_of_not_faulted (by obtain h | h := hstate <;> simp [h])]
      · intro f hstate hfault hnoDrop
        have hdrop : homeDrops old (s.image k) → s.homeDrop k = s := fun h => by
          obtain hresume | hresume | hnot := hnoDrop
          · exact homeDrop_of_interrupted hstate hfault (.inl hresume)
          · exact homeDrop_of_interrupted hstate hfault (.inr hresume)
          · exact absurd h hnot
        rw [homeDone_resting (.inr (.inr hstate)) hdrop, unexpectedDone_of_faulted hstate hfault]
        exact ⟨fun hodd => if_pos hodd, fun hdone hhome => if_neg (not_or.mpr ⟨hdone, hhome⟩)⟩
      · intro hstate hold hnew hdone
        rw [homeDone_toolMoved hk hkind (homeDrop_of_resting hstate) ⟨hold, hnew⟩ hdone, toolMoved_eq]
        have hbar : s.barPhase = true ↔ barUp := (barPhase_iff s).trans hbarUp.symm
        exact ⟨fun h => if_neg (mt hbar.mp h), fun h => if_pos (hbar.mpr h)⟩
      · intro o hstate hop
        refine ⟨homeDone_abandoning_goes_on hstate, ?_⟩
        intro hold hnew hdone
        rw [homeDone_abandoning_ends hk hkind hstate ⟨hold, hnew⟩ hdone]
        cases hresult : o.result with
        | some r =>
          rw [endAbandon_pending hop hresult]
          refine ⟨_, ?_, nofun, rfl⟩
          rintro _ ⟨⟩
          rfl
        | none =>
          rw [endAbandon_interrupted hop hresult]
          exact ⟨_, nofun, fun _ => rfl, rfl⟩
    · intro hkind hhome hdone hidle
      rw [unitInputs_eq hkind, homeDone_same hhome hdone hidle]
      refine ⟨?_, ?_⟩
      · intro hold hnew hclamped
        rw [fltChange_of_rising hold hnew, clampedDrop_of_not_dropping hclamped]
      · intro hflt hold hnew
        rw [fltChange_of_not_rising hflt, clampedDrop_of_dropping hold hnew]
    · intro c
      refine ⟨?_, fun f => unitFault_add⟩
      intro hstate
      exact (unitFault_new hstate).trans (congrArg (fun g => State.report _ (s.modUnit k g)) (takeFault_eq c))

end Sys2Proof.Machine
end

section
/-! Proofs of the statement on position 0, the unload position and the seat watch: the reading of the code, the resolution
of a read, the changes of the inputs, the two block sensors and the seats. -/

namespace Sys2Proof.Machine

/-! ## The code (R146) -/

theorem readCode_check {i : InputImage} (hdigits : ¬(9 < i.d2 ∨ 9 < i.d1 ∨ 9 < i.d0 ∨ 9 < i.c))
    (hcheck : i.c ≠ (3 * i.d2 + 7 * i.d1 + 9 * i.d0) % 10) : readCode i = .noread .check := by
  rw [readCode, if_neg hdigits, if_pos hcheck]

/-- With the digits and the check right, the range decides. -/
theorem readCode_value {i : InputImage} (hdigits : ¬(9 < i.d2 ∨ 9 < i.d1 ∨ 9 < i.d0 ∨ 9 < i.c))
    (hcheck : i.c = (3 * i.d2 + 7 * i.d1 + 9 * i.d0) % 10) :
    readCode i =
      if 1 ≤ 100 * i.d2 + 10 * i.d1 + i.d0 ∧ 100 * i.d2 + 10 * i.d1 + i.d0 ≤ 250 then
        .id (100 * i.d2 + 10 * i.d1 + i.d0)
      else .noread .range := by
  rw [readCode, if_neg hdigits, if_neg (not_not_intro hcheck)]

/-- The judgement of the four digit fields, in its order. -/
theorem readCode_judged (i : InputImage) :
    ((9 < i.d2 ∨ 9 < i.d1 ∨ 9 < i.d0 ∨ 9 < i.c) → readCode i = .noread .digit) ∧
    (i.d2 ≤ 9 → i.d1 ≤ 9 → i.d0 ≤ 9 → i.c ≤ 9 → i.c ≠ (3 * i.d2 + 7 * i.d1 + 9 * i.d0) % 10 →
      readCode i = .noread .check) ∧
    (∀ id, id = 100 * i.d2 + 10 * i.d1 + i.d0 → i.d2 ≤ 9 → i.d1 ≤ 9 → i.d0 ≤ 9 →
      i.c = (3 * i.d2 + 7 * i.d1 + 9 * i.d0) % 10 →
      ((1 ≤ id ∧ id ≤ 250) → readCode i = .id id) ∧ (¬(1 ≤ id ∧ id ≤ 250) → readCode i = .noread .range)) := by
  refine ⟨fun h => if_pos h, fun h2 h1 h0 hc => readCode_check (by omega), ?_⟩
  rintro _ rfl h2 h1 h0 hcheck
  rw [readCode_value (by omega) hcheck]
  exact ⟨fun h => if_pos h, fun h => if_neg h⟩

/-! ## Position requests and the end of a feed (R105, R149) -/

theorem modChannel_eq (c : ChannelId) (f : Channel → Channel) (s : State) :
    ∃ t, s.modChannel c f = { s with sct := t } := by
  unfold State.modChannel
  split <;> exact ⟨_, rfl⟩

theorem closeRequest_eq (id : RequestId) (s : State) :
    s.closeRequest id = { s with sct := { s.sct with requests := s.sct.requests.filter (·.id ≠ id) } } := by
  have hfilter : s.sct.requests.filter (·.id != id) = s.sct.requests.filter (·.id ≠ id) :=
    List.filter_congr fun r _ => by by_cases h : r.id = id <;> simp [h]
  simp only [State.closeRequest, State.modSct, hfilter]

/-- A withdrawal is the Seat Controller's affair alone. -/
theorem withdrawRequest_eq (id : RequestId) (s : State) : ∃ t, s.withdrawRequest id = { s with sct := t } := by
  unfold State.withdrawRequest
  split
  · split
    · split
      · exact modChannel_eq _ _ _
      · exact ⟨_, rfl⟩
    · exact ⟨_, rfl⟩
  · exact ⟨_, rfl⟩

theorem withdrawRequest_of_closed {id : RequestId} {s : State} (h : s.requestOpen id = false) :
    s.withdrawRequest id = s := if_neg (by simp [h])

/-- The Feed Unit with no feed in hand (R149). -/
def Fdu.ended (f : Fdu) : Fdu :=
  { f with gate := false, read := false, feedTimer := none, readTimer := none, expected := none, mode := none }

/-- The end of a feed is the Feed Unit's own, but for the requests it withdraws. -/
theorem endFeed_eq (s : State) : ∃ t, s.endFeed = { s with fdu := s.fdu.ended, sct := t } := by
  obtain ⟨t, h⟩ := withdrawRequest_eq .seatLoad (s.modFdu Fdu.ended)
  obtain ⟨t', h'⟩ := withdrawRequest_eq .releaseLoad ((s.modFdu Fdu.ended).withdrawRequest .seatLoad)
  exact ⟨t', h'.trans (by rw [h]; rfl)⟩

@[simp] theorem endFeed_prg (s : State) : s.endFeed.prg = s.prg := by
  obtain ⟨t, h⟩ := endFeed_eq s
  rw [h]

theorem endFeed_of_no_request {s : State} (h : ∀ r ∈ s.sct.requests, ∃ k, r.id = .reclamp k) :
    s.endFeed = { s with fdu := s.fdu.ended } := by
  have hclosed {id : RequestId} (hid : ∀ k, id ≠ .reclamp k) : (s.modFdu Fdu.ended).requestOpen id = false := by
    simp only [State.requestOpen, State.modFdu_sct, List.any_eq_false, beq_iff_eq]
    intro r hr e
    obtain ⟨k, hk⟩ := h r hr
    exact hid k (e.symm.trans hk)
  change ((s.modFdu Fdu.ended).withdrawRequest .seatLoad).withdrawRequest .releaseLoad = _
  rw [withdrawRequest_of_closed (hclosed (id := .seatLoad) nofun),
    withdrawRequest_of_closed (hclosed (id := .releaseLoad) nofun)]
  rfl

/-! ## The position-0 state (R141, R145, R146, R149, R150) -/

/-- The load-wait timer runs in AWAITING_BLOCK alone, loaded at its entry (R150). -/
theorem waitTimer_eq (l : LoadState) (f : Fdu) :
    f.waitTimer l =
      if l = .awaitingBlock then
        (if f.state = .awaitingBlock then f.loadWait else some (f.settings.loadWait * 1000))
      else none := by
  cases l <;> rfl

theorem setLoad_cases (l : LoadState) (hold : Bool) (s : State) :
    s.setLoad l hold =
      let t := { s with fdu := { s.fdu with
        state := l, loadHold := hold
        loadWait := if l = .awaitingBlock then
            (if s.fdu.state = .awaitingBlock then s.fdu.loadWait else some (s.fdu.settings.loadWait * 1000))
          else none } }
      if s.fdu.state = l then (if s.fdu.loadHold = hold then t else t.report (.loadState l l (s.slot 0) hold))
      else (t.report (.loadState s.fdu.state l (s.slot 0) hold)).loadCheck := by
  rw [← waitTimer_eq]
  unfold State.setLoad
  by_cases hstate : s.fdu.state = l
  · subst hstate
    rfl
  · exact (if_neg hstate).trans (if_neg hstate).symm

/-- SEATING opens the request for LOCATE at position 0 (R105, R145; log 34). -/
theorem openRequest_seatLoad (s : State) :
    s.openRequest .seatLoad =
      State.requestPulse (.locator 0) .engage .position { s with sct := { s.sct with
        requests := s.sct.requests.filter (·.id ≠ .seatLoad) ++ [{ id := .seatLoad, timer := s.sct.settings.locate }] } } := by
  simp only [State.openRequest, closeRequest_eq]
  rfl

theorem enterSeating_eq (s : State) :
    s.enterSeating =
      if (s.image 0).locIn = true then
        (((s.toLoad .seating).openRequest .seatLoad).closeRequest .seatLoad).enterReading
      else (s.toLoad .seating).openRequest .seatLoad := by
  have hmet : ((s.toLoad .seating).openRequest .seatLoad).requestMet .seatLoad = (s.image 0).locIn := by
    have hrgc : ((s.toLoad .seating).openRequest .seatLoad).rgc = s.rgc := by
      obtain ⟨d, c, h⟩ := setLoad_eq .seating s.fdu.loadHold s
      rw [openRequest_seatLoad, (requestPulse_leaves _ _ _ _).1, State.toLoad, h]
    simp only [State.requestMet, image_congr hrgc]
  rw [← hmet]
  rfl

theorem inWait_iff (s : State) : s.inWait = true ↔ s.isq.line = .running ∧ s.isq.phase = some .wait := by
  rw [State.inWait, runningIn_iff]
  exact ⟨fun ⟨ph, hwait, hline, hphase⟩ => ⟨hline, by rw [hphase, eq_of_beq hwait]⟩,
    fun ⟨hline, hphase⟩ => ⟨.wait, rfl, hline, hphase⟩⟩

/-- Hold-pending sends the line to HELD in WAIT, waits for the end of the index elsewhere in RUNNING, and is nothing in the
other line states (R44, R45). -/
theorem setHold_eq (why : LineReason) (s : State) :
    s.setHold why =
      if s.isq.line = .running ∧ s.isq.phase = some .wait then
        State.report (.lineState .held none why) { s with isq := { s.isq with
          line := .held, phase := none, holdPending := false, waitTimer := none } }
      else if s.isq.line = .running then { s with isq := { s.isq with holdPending := true } }
      else s := by
  unfold State.setHold
  by_cases h : s.isq.line = .running ∧ s.isq.phase = some .wait
  · rw [if_pos h, if_pos ((inWait_iff s).mpr h)]; rfl
  · rw [if_neg h, if_neg (mt (inWait_iff s).mp h)]; rfl

/-! ## Resolution (R147) -/

section Resolution

variable {s : State}

theorem resolve_noExpected (h : s.fdu.expected = none) (why : NoreadReason) :
    s.resolve (.noread why) = s.failFeed .read .noExpected := by
  simp only [State.resolve, h]

/-- The operation is not taken when slot 0 holds something (log 73). -/
theorem resolve_taken (hslot : s.slot 0 ≠ .empty) (hexp : s.fdu.expected ≠ none) (res : ReadResult) :
    s.resolve res = s.failFeedTo s.resolvedState .resolve .slotTaken := by
  obtain ⟨e, he⟩ := Option.ne_none_iff_exists'.mp hexp
  cases res <;> simp only [State.resolve, he, ne_eq, hslot, not_false_eq_true, if_true]

theorem resolve_noread {e : Nat} (hslot : s.slot 0 = .empty) (hexp : s.fdu.expected = some e) (why : NoreadReason) :
    s.resolve (.noread why) = s.endFeed.resolveTake 1 false (.feedNoread e why) := by
  simp only [State.resolve, hexp, hslot, ne_eq, not_true_eq_false, if_false, Option.getD_some]

theorem resolve_id (hslot : s.slot 0 = .empty) (id : Nat) :
    s.resolve (.id id) = s.endFeed.resolveId s.fdu.expected id := by
  cases hexp : s.fdu.expected <;> simp only [State.resolve, hexp, hslot, ne_eq, not_true_eq_false, if_false]

/-- The ordinal of the first place an id has in the return queue (R8). -/
theorem ordinal_of_split {id : Nat} {a b : List Nat} (hqueue : s.prg.queue = a ++ id :: b) (hnot : id ∉ a) :
    s.ordinal id = some (a.length + 1) := by
  have hnone : a.findIdx? (· == id) = none := List.idxOf?_eq_none_iff.mpr hnot
  have hidx : s.prg.queue.idxOf? id = some a.length := by
    rw [hqueue, List.idxOf?, List.findIdx?_append, hnone]
    simp [List.findIdx?_cons]
  simp only [State.ordinal, hidx, Option.map_some]

theorem ordinal_of_not_mem {id : Nat} (h : id ∉ s.prg.queue) : s.ordinal id = none := by
  simp only [State.ordinal, List.idxOf?_eq_none_iff.mpr h, Option.map_none]

/-- TAKE ORDINAL (R16). -/
theorem takeOrdinal_eq {k id : Nat} (hqueue : s.prg.queue[k - 1]? = some id) (verified : Bool) :
    s.takeOrdinal k verified = { s with prg := { s.prg with
      queue := s.prg.queue.eraseIdx (k - 1), map := s.prg.map.set 0 (.pallet id)
      records := s.prg.records.map fun q => if q.id = id then { q with unverified := !verified } else q } } := by
  simp only [State.takeOrdinal, hqueue]
  rfl

/-- A take leaves the pallet READY with its block reported, or waiting for one (R35, R147; log 63). -/
theorem resolveTake_eq {v : State} {k id : Nat} {verified : Bool} {rep : Report}
    (hv : (s.takeOrdinal k verified).report rep = v) (hslot : v.slot 0 = .pallet id) :
    s.resolveTake k verified rep =
      match v.blockAt 0 with
      | some x => (v.toLoad .ready).report (.blockCarried id x.serial x.disposition x.lock x.log.length)
      | none => v.toLoad .awaitingBlock := by
  have hpallet : v.palletAt 0 = some id := by simp only [State.palletAt, hslot]
  have hkeep (l : LoadState) :
      (v.toLoad l).palletAt 0 = v.palletAt 0 ∧ (v.toLoad l).blockAt 0 = v.blockAt 0 := by
    obtain ⟨d, c, h⟩ := setLoad_eq l v.fdu.loadHold v
    rw [State.toLoad, h]
    exact ⟨rfl, rfl⟩
  simp only [State.resolveTake, hv, State.resolvedState, hslot, State.reportCarried, hkeep, hpallet]
  cases hblock : v.blockAt 0 <;> rfl

/-- The pallet at the head of the queue, expected or not, is the match (log 21). -/
theorem resolve_matched {id : Nat} {rest : List Nat} (hslot : s.slot 0 = .empty) (hqueue : s.prg.queue = id :: rest) :
    s.resolve (.id id) = s.endFeed.resolveTake 1 true (.feedMatched id) := by
  have hordinal : s.endFeed.ordinal id = some 1 :=
    ordinal_of_split (a := []) (by rw [endFeed_prg]; exact hqueue) List.not_mem_nil
  rw [resolve_id hslot]
  simp [State.resolveId, hordinal]

/-- A pallet further back that was not expected is taken from its ordinal. -/
theorem resolve_reordered {id : Nat} {a b : List Nat} (hslot : s.slot 0 = .empty)
    (hqueue : s.prg.queue = a ++ id :: b) (hnot : id ∉ a) (hexp : s.fdu.expected ≠ some id) (hback : 1 < a.length + 1) :
    s.resolve (.id id) =
      s.endFeed.resolveTake (a.length + 1) true (.feedReordered id (a.length + 1) s.fdu.expected) := by
  have hordinal : s.endFeed.ordinal id = some (a.length + 1) :=
    ordinal_of_split (by rw [endFeed_prg]; exact hqueue) hnot
  have htake : ¬(s.fdu.expected = some id ∨ a.length + 1 ≤ 1) := by
    rintro (h | h)
    · exact hexp h
    · omega
  rw [resolve_id hslot]
  simp only [State.resolveId, hordinal, htake, if_false]

/-- MARK FOREIGN at the end of a feed (R16). -/
theorem endFeed_resolveForeign (s : State) (id : Nat) (rep : Report) :
    s.endFeed.resolveForeign id rep = State.toLoad .foreign (State.report rep
      { s.endFeed with prg := { s.prg with map := s.prg.map.set 0 (.foreign id) } }) := by
  rw [← endFeed_prg]
  rfl

/-- An id with no record is FOREIGN. -/
theorem resolve_unknown {id : Nat} (hslot : s.slot 0 = .empty) (hnot : id ∉ s.prg.queue) (hrecord : s.record id = none) :
    s.resolve (.id id) = s.endFeed.resolveForeign id (.feedForeign id s.fdu.expected) := by
  have hordinal : s.endFeed.ordinal id = none := ordinal_of_not_mem (by rw [endFeed_prg]; exact hnot)
  have hrecord' : s.endFeed.record id = none := by rw [State.record, endFeed_prg]; exact hrecord
  rw [resolve_id hslot]
  simp only [State.resolveId, hordinal, hrecord']

/-- An id with a record elsewhere is in conflict with its location, and holds the line. -/
theorem resolve_conflict {id : Nat} {q : Pallet} (hslot : s.slot 0 = .empty) (hnot : id ∉ s.prg.queue)
    (hrecord : s.record id = some q) :
    s.resolve (.id id) =
      State.setHold .alarm (s.endFeed.resolveForeign id (.feedConflict id (s.location id) s.fdu.expected)) := by
  have hordinal : s.endFeed.ordinal id = none := ordinal_of_not_mem (by rw [endFeed_prg]; exact hnot)
  have hrecord' : s.endFeed.record id = some q := by rw [State.record, endFeed_prg]; exact hrecord
  have hlocation : s.endFeed.location id = s.location id := by
    simp only [State.location, State.ordinal, endFeed_prg]
  rw [resolve_id hslot]
  simp only [State.resolveId, hordinal, hrecord', hlocation]

end Resolution

/-! ## The seats (R63) -/

section Seats

variable {s : State} {p : Nat}

theorem seatDrop_of_no_pallet (h : s.palletAt p = none) : s.seatDrop p = s := by
  simp only [State.seatDrop, h]

/-- The phases of the seat watch are RELEASE, WITHDRAW and RETURN. -/
theorem seatWatched_iff (ph : Phase) :
    ph.seatWatched = true ↔ ph = .release ∨ ph = .withdraw ∨ ph = .returning := by
  cases ph <;> decide

variable {id : Nat}

theorem seatDrop_held (hpallet : s.palletAt p = some id) (hline : s.isq.line = .held) :
    s.seatDrop p = s.report (.seatLost p id) := by
  simp only [State.seatDrop, hpallet, hline]

/-- In WAIT the line is held, with SEAT LOST before LINE STATE (log 75). -/
theorem seatDrop_wait (hpallet : s.palletAt p = some id) (hline : s.isq.line = .running)
    (hphase : s.isq.phase = some .wait) :
    s.seatDrop p = State.report (.lineState .held none .alarm) { s.report (.seatLost p id) with
      isq := { s.isq with line := .held, phase := none, holdPending := false, waitTimer := none } } := by
  have hwait : s.inWait = true := (inWait_iff s).mpr ⟨hline, hphase⟩
  simp only [State.seatDrop, hpallet, hline, hwait, if_true]
  exact (setHold_eq _ _).trans (if_pos ⟨hline, hphase⟩)

/-- In an index the watched phases halt it. -/
theorem seatDrop_index {ph : Phase} (hpallet : s.palletAt p = some id) (hline : s.isq.line = .running)
    (hphase : s.isq.phase = some ph) (hindex : ph ≠ .wait) :
    s.seatDrop p =
      if ph = .release ∨ ph = .withdraw ∨ ph = .returning then s.enterHalted .seatLoss [p] else s := by
  have hin (f : Phase → Bool) : s.runningIn f = f ph := by simp [State.runningIn, hline, hphase]
  have hwait : s.inWait = false := by rw [State.inWait, hin]; simpa using hindex
  have hraise : s.raiseCause .seatLoss [p] = s.enterHalted .seatLoss [p] :=
    if_pos (by rw [State.inIndex, hin]; simpa using hindex)
  simp only [State.seatDrop, hpallet, hline, hwait, Bool.false_eq_true, if_false, hin, seatWatched_iff, hraise]

/-- At a halt the watched halt phases add the cause. -/
theorem seatDrop_halted {r : HaltRecord} (hpallet : s.palletAt p = some id) (hline : s.isq.line = .halted)
    (hrecord : s.isq.haltRecord = some r) :
    s.seatDrop p =
      if r.phase = .release ∨ r.phase = .withdraw ∨ r.phase = .returning then s.addCause .seatLoss [p] else s := by
  have hhalt : s.haltPhase = some r.phase := by simp [State.haltPhase, hline, hrecord]
  have hraise : s.raiseCause .seatLoss [p] = s.addCause .seatLoss [p] := by
    simp [State.raiseCause, State.inIndex, State.runningIn, hline]
  simp only [State.seatDrop, hpallet, hline, hhalt, Option.any_some, seatWatched_iff, hraise]

end Seats

/-! ## The inputs of position 0 (R38, R144 to R149) -/

section LoadInputs

variable {s : State} {old new : InputImage}

theorem loadInputs_rise_feeding (hold : old.present = false) (hnew : new.present = true) (hblock : old.block = new.block)
    (hstate : s.fdu.state = .feeding) :
    s.loadInputs old new =
      State.enterSeating { s.withdrawRequest .releaseLoad with fdu := { s.fdu with gate := false, feedTimer := none } } := by
  obtain ⟨t, h⟩ := withdrawRequest_eq .releaseLoad s
  simp [State.loadInputs, hold, hnew, hblock, hstate, State.loadPresentRise, h, State.modFdu]

theorem loadInputs_rise_other (hold : old.present = false) (hnew : new.present = true) (hblock : old.block = new.block)
    (hfeeding : s.fdu.state ≠ .feeding) (hreading : s.fdu.state ≠ .reading) : s.loadInputs old new = s := by
  simp [State.loadInputs, hold, hnew, hblock, hfeeding, hreading, State.loadPresentRise]

/-- PRESENT drops: the seat watch first, then the feed (log 8). -/
theorem loadInputs_drop (hold : old.present = true) (hnew : new.present = false) (hblock : old.block = new.block)
    (htoggle : old.toggle = new.toggle) : s.loadInputs old new = (s.seatDrop 0).loadPresentDrop := by
  simp [State.loadInputs, hold, hnew, hblock, htoggle]

theorem loadInputs_toggle (himage : s.image 0 = new) (hpresent : old.present = new.present)
    (hblock : old.block = new.block) (htoggle : old.toggle ≠ new.toggle) :
    s.loadInputs old new =
      if s.fdu.state = .reading then
        State.resolve (readCode new) { s with fdu := { s.fdu with read := false, readTimer := none } }
      else s := by
  by_cases h : s.fdu.state = .reading <;>
    simp [State.loadInputs, hpresent, hblock, htoggle, h, State.codeAnswer, himage, State.modFdu]

theorem loadInputs_block (hpresent : old.present = new.present) (htoggle : old.toggle = new.toggle) :
    s.loadInputs old new = if old.block = new.block then s else s.loadCheck := by
  by_cases h : old.block = new.block <;> simp [State.loadInputs, hpresent, htoggle, h]

/-- A PRESENT drop clears the load hold and is nothing else outside SEATING, READING and FOREIGN (R149). -/
theorem loadPresentDrop_clear (h : s.fdu.state ∈ [LoadState.empty, .feeding, .awaitingBlock, .ready]) :
    s.loadPresentDrop = s.setLoad s.fdu.state false := by
  simp only [List.mem_cons, List.not_mem_nil, or_false] at h
  obtain h | h | h | h := h <;> simp only [State.loadPresentDrop, State.clearLoadHold, h]

theorem loadPresentDrop_seating (h : s.fdu.state = .seating) :
    s.loadPresentDrop = (s.setLoad s.fdu.state false).failFeed .seating .presentLost := by
  simp only [State.loadPresentDrop, State.clearLoadHold, h]

theorem loadPresentDrop_reading (h : s.fdu.state = .reading) :
    s.loadPresentDrop = (s.setLoad s.fdu.state false).failFeed .read .presentLost := by
  simp only [State.loadPresentDrop, State.clearLoadHold, h]

/-- The FOREIGN pallet has been taken away (R148; log 58). -/
theorem loadPresentDrop_foreign {id : Nat} (h : s.fdu.state = .foreign) (hslot : s.slot 0 = .foreign id) :
    s.loadPresentDrop =
      State.toLoad .empty (State.report (.foreignRemoved id) (s.setLoad s.fdu.state false).clearLoad) := by
  simp only [State.loadPresentDrop, State.clearLoadHold, h, State.foreignId, hslot, Option.getD_some]

end LoadInputs

/-! ## The load sensor (R38) -/

theorem loadFinding_eq (s : State) :
    s.loadFinding =
      if s.fdu.state ≠ .ready then none else if s.prg.openIndex = true then s.prg.disagreement else
      if s.blockAt 0 = none ∧ (s.image 0).block = true then some .phantom else
      if s.blockAt 0 ≠ none ∧ (s.image 0).block = false then some .missing else none := by
  have hjudge : judgeLoad (s.blockAt 0).isSome (s.image 0).block =
      if s.blockAt 0 = none ∧ (s.image 0).block = true then some .phantom else
      if s.blockAt 0 ≠ none ∧ (s.image 0).block = false then some .missing else none := by
    cases s.blockAt 0 <;> cases (s.image 0).block <;> simp [judgeLoad]
  rw [State.loadFinding, hjudge]
  by_cases h : s.fdu.state = .ready <;> simp only [h, ne_eq, not_true_eq_false, not_false_eq_true, if_true, if_false]

theorem writeFinding_cases (d : Option Disagreement) (s : State) :
    s.writeFinding d =
      if s.prg.disagreement = none then { s with prg := { s.prg with disagreement := d } }
      else State.report (.blockAgreed 0) { s with prg := { s.prg with disagreement := d } } := by
  unfold State.writeFinding
  cases s.prg.disagreement <;> rfl

/-! ## The unload position (R39 to R41) -/

section Unload

variable {s : State}

theorem unloadInputs_same {a : Nat} {old new : InputImage} (hpresent : old.present = new.present)
    (hblock : old.block = new.block) : s.unloadInputs a old new = s := by
  simp [State.unloadInputs, hpresent, hblock]

theorem unloadInputs_rise {a : Nat} {old new : InputImage} (hpresent : old.present = new.present)
    (hold : old.block = false) (hnew : new.block = true) : s.unloadInputs a old new = s.unloadRise := by
  simp [State.unloadInputs, hpresent, hold, hnew]

theorem unloadInputs_drop {a : Nat} {old new : InputImage} (hpresent : old.present = new.present)
    (hold : old.block = true) (hnew : new.block = false) : s.unloadInputs a old new = s.unloadDrop := by
  simp [State.unloadInputs, hpresent, hold, hnew]

theorem unloadDrop_phantom (h : s.prg.watch = .phantom) :
    s.unloadDrop = State.report (.blockAgreed (s.n + 1)) { s with prg := { s.prg with watch := .idle } } := by
  simp only [State.unloadDrop, h]
  rfl

/-- The block has left: BLOCK OUT, and the record is without it (R40). -/
theorem unloadDrop_present {q : Pallet} {x : Block} (h : s.prg.watch = .present) (hpallet : s.unloadPallet = some q)
    (hblock : q.block = some x) :
    s.unloadDrop = State.report (.blockOut q.id q.cycles q.unverified x) { s with prg := { s.prg with
      watch := .idle
      records := s.prg.records.map fun r => if r.id = q.id then { r with block := none } else r } } := by
  simp only [State.unloadDrop, h, State.removeBlock, hpallet, hblock]
  rfl

theorem unloadDrop_other (h : s.prg.watch ∈ [Watch.idle, .expecting, .deferred]) : s.unloadDrop = s := by
  simp only [List.mem_cons, List.not_mem_nil, or_false] at h
  obtain h | h | h := h <;> simp only [State.unloadDrop, h]

theorem judgeUnload_eq (b : Option Block) (level : Bool) :
    judgeUnload b.isSome level =
      if b = none then (if level = true then .phantom else .idle)
      else if level = true then .present else .expecting := by
  cases b <;> cases level <;> rfl

end Unload

/-! ## The statement -/

/-- A take at the end of a feed, from the register as the statement writes it. -/
theorem endFeed_resolveTake {s v : State} {k id : Nat} {verified : Bool} {rep : Report} (hmap : s.prg.map ≠ [])
    (hqueue : s.prg.queue[k - 1]? = some id)
    (hv : v = State.report rep { s.endFeed with prg := { s.prg with
      queue := s.prg.queue.eraseIdx (k - 1), map := s.prg.map.set 0 (.pallet id)
      records := s.prg.records.map fun q => if q.id = id then { q with unverified := !verified } else q } }) :
    s.endFeed.resolveTake k verified rep =
      match v.blockAt 0 with
      | some x => (v.toLoad .ready).report (.blockCarried id x.serial x.disposition x.lock x.log.length)
      | none => v.toLoad .awaitingBlock := by
  subst hv
  refine resolveTake_eq ?_ ?_
  · rw [takeOrdinal_eq (by rw [endFeed_prg]; exact hqueue), endFeed_prg]
  · obtain ⟨c, l, hl⟩ := List.exists_cons_of_ne_nil hmap
    simp only [State.slot, report_prg, hl]
    rfl

/-- Settles O59, part by part: the code, the resolution with slot 0 EMPTY and not, the operations written out, the inputs
of position 0, the load check, the unload position, the seats. -/
theorem codeFieldsAreJudged : Obligations.CodeFieldsAreJudged := by
  refine ⟨readCode_judged, ?_, ?_, ?_, ?_, ?_, ?_, ?_⟩
  · rintro s _ take hslot hmap rfl htake
    have htaken {k id : Nat} (verified : Bool) (rep : Report) (hqueue : s.prg.queue[k - 1]? = some id) :
        s.endFeed.resolveTake k verified rep = take k id verified rep :=
      (endFeed_resolveTake hmap hqueue rfl).trans (htake k id verified rep _ rfl).symm
    refine ⟨?_, ?_, fun why hexp => resolve_noExpected hexp why, ?_, ?_, ?_⟩
    · intro id rest hexp hqueue
      rw [resolve_matched hslot hqueue]
      exact htaken true _ (by rw [hqueue]; rfl)
    · intro e rest why hexp hqueue
      rw [resolve_noread hslot hexp]
      exact htaken false _ (by rw [hqueue]; rfl)
    · rintro id _ a b hexp hqueue hnot rfl hback
      rw [resolve_reordered hslot hqueue hnot hexp hback]
      exact htaken true _ (by rw [hqueue]; simp)
    · intro id hnot hrecord
      rw [resolve_unknown hslot hnot hrecord, endFeed_resolveForeign]
    · intro id q hnot hrecord
      rw [resolve_conflict hslot hnot hrecord, endFeed_resolveForeign]
  · intro s res hslot hexp
    rw [resolve_taken hslot hexp, State.resolvedState]
    cases h : s.slot 0 with
    | empty => rfl
    | foreign id => rfl
    | pallet id => cases s.blockAt 0 <;> rfl
  · intro s
    refine ⟨fun l stage why => ⟨rfl, rfl⟩, ?_, fun l => rfl, ?_, ?_, fun why => setHold_eq why s, endFeed_of_no_request⟩
    · rintro l hold t rfl
      exact setLoad_cases l hold s
    · rintro _ t rfl ht
      have hopen : (s.toLoad .seating).openRequest .seatLoad = t := by
        obtain ⟨d, c, h⟩ := setLoad_eq .seating s.fdu.loadHold s
        rw [openRequest_seatLoad, ht, State.toLoad, h]
      rw [enterSeating_eq, hopen, closeRequest_eq]
    · rintro _ rfl
      obtain ⟨d, c, h⟩ := setLoad_eq .reading s.fdu.loadHold s
      rw [State.enterReading, State.toLoad, h]
      rfl
  · rintro s old _ rfl
    refine ⟨loadInputs_rise_feeding, loadInputs_rise_other, ?_, loadInputs_toggle rfl, loadInputs_block⟩
    rintro _ _ hold hnew hblock htoggle rfl rfl
    rw [loadInputs_drop hold hnew hblock htoggle]
    refine ⟨loadPresentDrop_seating, loadPresentDrop_reading, ?_, loadPresentDrop_clear⟩
    intro id hstate hslot
    have hseat : s.seatDrop 0 = s := seatDrop_of_no_pallet (by simp only [State.palletAt, hslot])
    rw [hseat] at hstate ⊢
    exact loadPresentDrop_foreign hstate hslot
  · rintro s now t hnow rfl
    rw [← loadFinding_eq] at hnow
    subst hnow
    rw [← writeFinding_cases]
    refine ⟨loadCheck_same, fun hother => ?_⟩
    have hcheck := loadCheck_other hother
    refine ⟨fun h => ?_, fun id hpallet => ⟨fun h => ?_, fun x hblock h => ?_⟩⟩
    · simpa only [h] using hcheck
    · simpa only [h, hpallet, Option.getD_some] using hcheck
    · simpa only [h, hpallet, hblock, Option.getD_some, Option.map_some] using hcheck
  · rintro s old _ _ rfl rfl hpresent
    refine ⟨unloadInputs_same hpresent, ?_, ?_, ?_⟩
    · intro hold hnew
      rw [unloadInputs_rise hpresent hold hnew, State.unloadRise]
      cases s.prg.watch <;> rfl
    · intro hold hnew
      rw [unloadInputs_drop hpresent hold hnew]
      exact ⟨unloadDrop_phantom, fun q x => unloadDrop_present, unloadDrop_other⟩
    · rintro _ rfl
      rw [← judgeUnload_eq]
      rfl
  · intro s p
    exact ⟨seatDrop_of_no_pallet, fun id hpallet => ⟨seatDrop_held hpallet, seatDrop_wait hpallet,
      fun ph => seatDrop_index hpallet, fun r => seatDrop_halted hpallet⟩⟩

end Sys2Proof.Machine
end

section
/-! Proof of the statement on the cam tables: the fields of a point, the count of a bank after a write, and CAM WRITE. -/

namespace Sys2Proof.Machine

/-! ## The fields of a cam point (Table 7-1) -/

theorem directionOf_eq_some_iff (b : Byte) (d : Direction) :
    directionOf b = some d ↔ (b = 0 ∧ d = .advance) ∨ (b = 1 ∧ d = .returning) := by
  unfold directionOf
  split
  case h_1 h0 =>
    obtain rfl : b = 0 := BitVec.eq_of_toNat_eq h0
    simp [eq_comm]
  case h_2 h1 =>
    obtain rfl : b = 1 := BitVec.eq_of_toNat_eq h1
    simp [eq_comm]
  case h_3 h0 h1 =>
    refine ⟨nofun, ?_⟩
    rintro (⟨rfl, _⟩ | ⟨rfl, _⟩)
    · exact (h0 rfl).elim
    · exact (h1 rfl).elim

/-- The rows of Table 7-1: MARK stands without k and level, the other actions need a k of 0..7, and CHECK alone a level. -/
theorem actionOf_eq_some_iff (p : PointFields) (a : CamAction) :
    actionOf p = some a ↔
      (p.action = 3 ∧ p.k = none ∧ p.level = none ∧ a = .mark) ∨
        ∃ k : Byte, p.k = some k ∧ k.toNat ≤ 7 ∧
          ((p.action = 0 ∧ p.level = none ∧ a = .auxOn k.toNat) ∨
            (p.action = 1 ∧ p.level = none ∧ a = .auxOff k.toNat) ∨
            ∃ e : Bool, p.action = 2 ∧ p.level = some e ∧ a = .check k.toNat e) := by
  constructor
  · unfold actionOf
    split
    case h_1 k haction hk hlevel =>
      intro h
      obtain ⟨hle, ⟨⟩⟩ := Option.ite_none_right_eq_some.mp h
      exact .inr ⟨k, hk, hle, .inl ⟨BitVec.eq_of_toNat_eq haction, hlevel, rfl⟩⟩
    case h_2 k haction hk hlevel =>
      intro h
      obtain ⟨hle, ⟨⟩⟩ := Option.ite_none_right_eq_some.mp h
      exact .inr ⟨k, hk, hle, .inr (.inl ⟨BitVec.eq_of_toNat_eq haction, hlevel, rfl⟩)⟩
    case h_3 k e haction hk hlevel =>
      intro h
      obtain ⟨hle, ⟨⟩⟩ := Option.ite_none_right_eq_some.mp h
      exact .inr ⟨k, hk, hle, .inr (.inr ⟨e, BitVec.eq_of_toNat_eq haction, hlevel, rfl⟩)⟩
    case h_4 haction hk hlevel =>
      rintro ⟨⟩
      exact .inl ⟨BitVec.eq_of_toNat_eq haction, hk, hlevel, rfl⟩
    case h_5 => exact nofun
  · rintro (⟨haction, hk, hlevel, rfl⟩ | ⟨k, hk, hle, ⟨haction, hlevel, rfl⟩ | ⟨haction, hlevel, rfl⟩ |
      ⟨e, haction, hlevel, rfl⟩⟩) <;>
      simp [actionOf, *]

/-- A point is named by its stroke, its action and a position up to 1,200,000 (R128, R130). -/
theorem camPoint_eq_some_iff (p : PointFields) (c : CamPoint) :
    camPoint p = some c ↔
      p.position.toNat ≤ Config.maxPosition ∧ c.position = p.position.toNat ∧ directionOf p.stroke = some c.stroke ∧
        actionOf p = some c.action := by
  obtain ⟨position, stroke, action⟩ := c
  unfold camPoint
  split
  case h_1 d a hd ha =>
    simp only [hd, ha, Option.ite_none_right_eq_some, Option.some.injEq, CamPoint.mk.injEq,
      eq_comm (b := position)]
  case h_2 hno =>
    exact ⟨nofun, fun ⟨_, _, hd, ha⟩ => (hno _ _ hd ha).elim⟩

/-! ## A list of points -/

theorem mapM_eq_none_of_mem {α β : Type} {f : α → Option β} {l : List α} {a : α} (hmem : a ∈ l) (ha : f a = none) :
    l.mapM f = none := by
  induction l with
  | nil => cases hmem
  | cons x xs ih =>
    obtain rfl | htail := List.mem_cons.mp hmem
    · simp [ha]
    · cases hx : f x <;> simp [hx, ih htail]

theorem length_of_mapM_eq_some {α β : Type} {f : α → Option β} {l : List α} {m : List β} (h : l.mapM f = some m) :
    m.length = l.length := by
  induction l generalizing m with
  | nil => cases h; rfl
  | cons x xs ih =>
    simp only [List.mapM_cons, Option.pure_def, Option.bind_eq_bind, Option.bind_eq_some_iff, Option.some.injEq] at h
    obtain ⟨_, _, ys, hys, rfl⟩ := h
    simp [ih hys]

/-! ## Banks (R129, R130) -/

theorem bankOf_code (id : BankId) : bankOf (BitVec.ofNat 8 id.code) = some id := by cases id <;> rfl

/-- A byte above 1 names no bank. -/
theorem bankOf_large {b : Byte} (h : 1 < b.toNat) : bankOf b = none := by
  unfold bankOf
  split
  case h_1 h0 => omega
  case h_2 h1 => omega
  case h_3 => rfl

@[simp] theorem bank_modBank (id : BankId) (f : Bank → Bank) (s : State) :
    (s.modBank id f).cam.bank id = f (s.cam.bank id) := by cases id <;> rfl

/-- What a bank becomes is read at the bank as it stands. -/
theorem modBank_congr {s : State} {id : BankId} {f g : Bank → Bank} (h : f (s.cam.bank id) = g (s.cam.bank id)) :
    s.modBank id f = s.modBank id g := by
  cases id
  case a => exact congrArg (fun x => s.modCam fun c => { c with bankA := x }) h
  case b => exact congrArg (fun x => s.modCam fun c => { c with bankB := x }) h

theorem writePoints_nil (start : Nat) (old : List CamPoint) : writePoints start [] old = old.take start := rfl

theorem writePoints_of_ne_nil (start : Nat) {new : List CamPoint} (old : List CamPoint) (h : new ≠ []) :
    writePoints start new old = old.take start ++ new ++ old.drop (start + new.length) := by
  cases new with
  | nil => exact absurd rfl h
  | cons _ _ => rfl

/-- The count of a bank after points are written into it with no gap (R130). -/
theorem length_writePoints {start : Nat} {new old : List CamPoint} (hstart : start ≤ old.length) (h : new ≠ []) :
    (writePoints start new old).length = max old.length (start + new.length) := by
  rw [writePoints_of_ne_nil start old h]
  simp only [List.length_append, List.length_take, List.length_drop]
  omega

/-! ## CAM WRITE (R130) -/

theorem exec_camWrite_long {s : State} {tag b start : Byte} {l : List PointFields} (h : s.Free)
    (hlong : Config.maxPayload < (Request.camWrite b start l).payload.length) :
    exec (.camWrite tag b start l) s = .next (s.answered 0x0A tag (.refused .badLength [])) :=
  congrArg _ (requestEvent_of_long h hlong)

theorem exec_camWrite {s t : State} {tag b start : Byte} {l : List PointFields} {a : Answer} (h : s.Free)
    (hfits : (Request.camWrite b start l).payload.length ≤ Config.maxPayload)
    (hdo : s.doCamWrite b start l = (a, t)) :
    exec (.camWrite tag b start l) s = .next (t.answered 0x0A tag a) :=
  congrArg _ (requestEvent_of_perform (q := .camWrite b start l) h hfits hdo)

section Write
variable {s : State} {b start : Byte} {l : List PointFields}

theorem doCamWrite_wrongState (hline : s.isq.line = .unconfigured) :
    s.doCamWrite b start l = s.refuse .wrongState := if_pos hline

theorem doCamWrite_badField (hline : s.isq.line ≠ .unconfigured) (hbad : 1 < b.toNat ∨ ∃ p ∈ l, camPoint p = none) :
    s.doCamWrite b start l = s.refuse .badField := by
  rw [State.doCamWrite, if_neg hline]
  obtain hbank | ⟨p, hmem, hpoint⟩ := hbad
  · rw [bankOf_large hbank]
  · rw [mapM_eq_none_of_mem hmem hpoint]
    cases bankOf b <;> rfl

/-- With the bank and the points named, the room for the points and then the bank's state decide. -/
theorem doCamWrite_fields {id : BankId} {new : List CamPoint} (hline : s.isq.line ≠ .unconfigured)
    (hbank : b = BitVec.ofNat 8 id.code) (hnew : l.mapM camPoint = some new) :
    s.doCamWrite b start l =
      if (s.cam.bank id).points.length < start.toNat ∨ 32 < start.toNat + l.length then s.refuse .badField
      else if (s.cam.bank id).state = .active then s.refuse .bankActive
      else if (s.cam.bank id).state = .armed ∨ (s.cam.bank id).underTrial = true then s.refuse .bankPending
      else
        (.ok ([b] ++ u8 (writePoints start.toNat new (s.cam.bank id).points).length),
          s.modBank id fun x => { x with points := writePoints start.toNat new x.points }) := by
  subst hbank
  rw [State.doCamWrite, if_neg hline, bankOf_code, hnew]
  simp only [length_of_mapM_eq_some hnew, bank_modBank]
  rfl

end Write

/-- A level or presence byte that is neither 0 nor 1 is judged after the line state (R130, R170; log 13). -/
theorem execute_camWrite_badField {s : State} {tag : Byte} {payload : List Byte}
    (h : Request.parse 0x0A payload = .error .badField) :
    s.execute { kind := 0x0A, tag := tag, payload := payload } =
      (.refused (if s.isq.line = .unconfigured then .wrongState else .badField) [], s) := by
  have hstate : s.stateRefusal 0x0A = if s.isq.line = .unconfigured then some .wrongState else none := rfl
  simp only [State.execute, h, hstate, State.refuse]
  split <;> rfl

/-- Settles O25, check by check. -/
theorem camWriteWritesTheBank : Obligations.CamWriteWritesTheBank := by
  refine ⟨?_, ?_, fun s tag payload => execute_camWrite_badField⟩
  · intro s tag b start l refused hfree hrefused
    refine ⟨fun hlong => (hrefused _).mpr (exec_camWrite_long hfree hlong), fun hfits => ?_⟩
    have hrefuse : ∀ why, s.doCamWrite b start l = s.refuse why → refused why :=
      fun why hdo => (hrefused why).mpr (exec_camWrite hfree hfits hdo)
    refine ⟨fun hline => hrefuse _ (doCamWrite_wrongState hline), fun hline =>
      ⟨fun hbad => hrefuse _ (doCamWrite_badField hline hbad), ?_⟩⟩
    intro id new hbank hnew
    have hdo := doCamWrite_fields (start := start) hline (id := id) (by cases id <;> exact hbank) hnew
    refine ⟨fun hroom => hrefuse _ (by rw [hdo, if_pos hroom]), fun hstart hcount => ?_⟩
    rw [if_neg (by omega)] at hdo
    refine ⟨?_, ?_, ?_⟩
    · intro hactive
      exact hrefuse _ (by rw [hdo, if_pos hactive])
    · intro hpending
      refine hrefuse _ ?_
      obtain harmed | ⟨hopen, htrial⟩ := hpending
      · rw [hdo, if_neg (by simp [harmed]), if_pos (.inl harmed)]
      · rw [hdo, if_neg (by simp [hopen]), if_pos (.inr htrial)]
    · intro hopen htrial
      rw [if_neg (by simp [hopen]), if_neg (by simp [hopen, htrial])] at hdo
      have hlen := length_of_mapM_eq_some hnew
      refine ⟨?_, ?_⟩
      · rintro rfl
        obtain rfl : new = [] := List.eq_nil_of_length_eq_zero hlen
        rw [writePoints_nil, List.length_take, Nat.min_eq_left hstart] at hdo
        exact exec_camWrite hfree hfits hdo
      · intro hl
        have hne : new ≠ [] := by
          rintro rfl
          exact hl (List.eq_nil_of_length_eq_zero hlen.symm)
        refine ⟨writePoints start.toNat new (s.cam.bank id).points, ?_, ?_, ?_⟩
        · rw [writePoints_of_ne_nil _ _ hne, hlen]
        · rw [length_writePoints hstart hne, hlen]
        · rw [modBank_congr (g := fun x => { x with points := writePoints start.toNat new x.points }) rfl]
          exact exec_camWrite hfree hfits hdo
  · intro p c
    rw [camPoint_eq_some_iff, directionOf_eq_some_iff, actionOf_eq_some_iff]
    exact Iff.rfl

end Sys2Proof.Machine
end

section
/-! Proof of the statement on the bounds of the link: every step keeps `State.Safe`. Its bounds hold through the whole of
an event; that no request waits with the reply slot empty is made good by CLU's work at the event's end. -/

namespace Sys2Proof.Machine

/-- What `State.Safe` says but for R172, which an event breaks on its way. -/
structure State.Bounded (s : State) : Prop where
  requests : s.clu.requestQueue.length ≤ Config.requestSlots
  busy : s.clu.busyList.length ≤ Config.busySlots
  reports : s.clu.reports.length ≤ Config.reportSlots
  time : s.timeBase < Config.wrap32

/-- No request waits with the reply slot empty (R172). -/
def State.Served (s : State) : Prop := s.clu.replySlot = none → s.clu.requestQueue = []

theorem State.safe_iff (s : State) : s.Safe ↔ s.Bounded ∧ s.Served :=
  ⟨fun h => ⟨⟨h.requests, h.busy, h.reports, h.time⟩, h.waiting⟩,
    fun ⟨h, hserved⟩ => ⟨h.requests, h.busy, h.reports, hserved, h.time⟩⟩

/-- The work `f` keeps the bounds. -/
def KeepsBounds (f : State → State) : Prop := ∀ s, s.Bounded → (f s).Bounded

/-! ## Executing requests (R169, R171, R172) -/

section Bounds
variable {s t : State}

theorem State.Bounded.modClu {f : Clu → Clu} (h : s.Bounded)
    (hrequests : (f s.clu).requestQueue.length ≤ Config.requestSlots)
    (hbusy : (f s.clu).busyList.length ≤ Config.busySlots)
    (hreports : (f s.clu).reports.length ≤ Config.reportSlots) : (s.modClu f).Bounded :=
  ⟨hrequests, hbusy, hreports, h.time⟩

theorem LinkKept.bounded (hk : LinkKept s t) (h : s.Bounded) : t.Bounded where
  requests := by
    obtain hsame | hnone := hk.requests
    · rw [hsame]; exact h.requests
    · rw [hnone]; exact Nat.zero_le _
  busy := by rw [hk.busyList]; exact h.busy
  reports := hk.room h.reports
  time := by rw [hk.timeBase]; exact h.time

theorem Kept.keepsBounds {f : State → State} (hf : ∀ s, Kept s (f s)) : KeepsBounds f :=
  fun s h => (hf s).toLink.bounded h

theorem linkKept_execute (f : Frame) (s : State) : LinkKept s (s.execute f).2 := by
  unfold State.execute
  split
  · exact linkKept_performIn _ _ s
  · exact (Kept.refl s).toLink
  · exact (Kept.refl s).toLink

theorem State.Bounded.placeReply (h : s.Bounded) (kind tag : Byte) (a : Answer) : (s.placeReply kind tag a).Bounded :=
  h.modClu h.requests h.busy h.reports

theorem keepsBounds_serve : KeepsBounds State.serve := by
  intro s h
  unfold State.serve
  split
  case h_1 f rest hslot hqueue =>
    have hrest : (s.modClu fun c => { c with requestQueue := rest }).Bounded := by
      refine h.modClu ?_ h.busy h.reports
      have hrequests := h.requests
      rw [hqueue, List.length_cons] at hrequests
      exact Nat.le_of_succ_le hrequests
    exact ((linkKept_execute f _).bounded hrest).placeReply ..
  case h_2 => exact h

/-- After CLU has looked at the head of the queue either the slot is taken or nothing waits (R172). -/
theorem served_serve (s : State) : s.serve.Served := by
  unfold State.serve
  split
  case h_1 => exact fun hslot => nomatch hslot
  case h_2 hnot =>
    intro hslot
    cases hqueue : s.clu.requestQueue with
    | nil => rfl
    | cons f rest => exact (hnot f rest hslot hqueue).elim

theorem keepsBounds_modCounts (f : LinkCounts → LinkCounts) : KeepsBounds (State.modCounts f) :=
  fun _ h => h.modClu h.requests h.busy h.reports

theorem keepsBounds_setFramer (x : Framer) : KeepsBounds (State.setFramer x) :=
  fun _ h => h.modClu h.requests h.busy h.reports

/-- A frame joins a list only where the list has room (R171). -/
theorem keepsBounds_arrive (f : Frame) : KeepsBounds (State.arrive f) := by
  intro s h
  unfold State.arrive
  split
  case isTrue hroom => exact h.modClu (by rw [List.length_append]; exact hroom) h.busy h.reports
  case isFalse =>
    split
    case isTrue hroom =>
      exact keepsBounds_modCounts _ _ (h.modClu h.requests (by rw [List.length_append]; exact hroom) h.reports)
    case isFalse => exact keepsBounds_modCounts _ _ h

theorem keepsBounds_takeFrame (f : Frame) : KeepsBounds (State.takeFrame f) := by
  intro s h
  unfold State.takeFrame
  split
  · exact keepsBounds_arrive f s h
  · exact keepsBounds_modCounts _ s h

theorem keepsBounds_submit (q : Request) (tag : Byte) : KeepsBounds (State.submit q tag) := by
  intro s h
  unfold State.submit
  split
  · exact ((linkKept_performIn q _ s).bounded h).placeReply ..
  · exact keepsBounds_arrive _ s h

/-! ## The line (R167, R168, R173) -/

theorem keepsBounds_judgeCrc (len : Nat) (kind tag : Byte) (got : List Byte) (high low : Byte) :
    KeepsBounds (State.judgeCrc len kind tag got high low) := by
  intro s h
  simp only [State.judgeCrc]
  have hhunt : s.toHunt.Bounded := keepsBounds_setFramer .hunt s h
  split
  · exact keepsBounds_takeFrame _ _ hhunt
  · exact keepsBounds_modCounts _ _ hhunt

/-- Every row of the framer's table moves the framer, counts, or ends in a valid frame. -/
theorem keepsBounds_takeByte (b : Byte) : KeepsBounds (State.takeByte b) := by
  intro s h
  have hmove : ∀ x, (s.setFramer x).Bounded := fun x => keepsBounds_setFramer x s h
  unfold State.takeByte
  split
  · exact h
  · split
    case h_1 =>
      split
      case isTrue => exact hmove _
      case isFalse => exact h
    case h_2 =>
      split
      case isTrue => exact hmove _
      case isFalse => exact keepsBounds_modCounts _ _ (hmove _)
    case h_3 => exact hmove _
    case h_4 => exact hmove _
    case h_5 => exact hmove _
    case h_6 => exact hmove _
    case h_7 => exact keepsBounds_judgeCrc _ _ _ _ _ _ s h

theorem keepsBounds_takeGap : KeepsBounds State.takeGap := by
  intro s h
  unfold State.takeGap
  split
  · exact h
  · exact keepsBounds_modCounts _ _ (keepsBounds_setFramer _ s h)

theorem keepsBounds_takeFramingError : KeepsBounds State.takeFramingError := by
  intro s h
  unfold State.takeFramingError
  split
  · exact h
  · exact keepsBounds_modCounts _ _ (keepsBounds_setFramer _ s h)

theorem keepsBounds_takeBreak : KeepsBounds State.takeBreak := by
  intro s h
  unfold State.takeBreak
  split
  · exact h
  · have hseen : (s.modClu fun c => { c with breakSeen := true }).Bounded := h.modClu h.requests h.busy h.reports
    exact Kept.keepsBounds (fun t => kept_setHold .break (Kept.refl t)) _ (keepsBounds_setFramer .hunt _ hseen)

theorem keepsBounds_endBreak : KeepsBounds State.endBreak := fun _ h => h.modClu h.requests h.busy h.reports

/-! ## The transmitter (R174, R176) -/

/-- All the transmitter can do in one choice: nothing, or the reply, a BUSY, or a report. -/
theorem transmit_induction {motive : State → Prop} (stays : motive s) (reply : ∀ r, motive (s.sendReply r))
    (busy : ∀ b rest, s.clu.busyList = b :: rest → motive (s.sendBusy b rest)) (report : motive s.sendReport) :
    motive s.transmit := by
  unfold State.transmit
  split
  case h_1 => exact stays
  case h_2 =>
    split
    case h_1 => exact reply _
    case h_2 hbusy =>
      split
      case isTrue => exact reply _
      case isFalse => exact busy _ _ hbusy
    case h_3 hbusy => exact busy _ _ hbusy
    case h_4 => exact report

theorem keepsBounds_endFrame : KeepsBounds State.endFrame := fun _ h => h.modClu h.requests h.busy h.reports

theorem keepsBounds_transmit : KeepsBounds State.transmit := by
  intro s h
  refine transmit_induction h (fun r => ?_) (fun b rest hbusy => ?_) ?_
  · exact keepsBounds_serve _ ⟨h.requests, h.busy, h.reports, h.time⟩
  · have hlist := h.busy
    rw [hbusy, List.length_cons] at hlist
    exact ⟨h.requests, Nat.le_of_succ_le hlist, h.reports, h.time⟩
  · unfold State.sendReport
    split
    case h_1 => exact h
    case h_2 q rest hreports =>
      have hlist := h.reports
      rw [hreports, List.length_cons] at hlist
      exact ⟨h.requests, h.busy, Nat.le_of_succ_le hlist, h.time⟩

/-- The slot is freed by the sending of the reply alone, and then the next request is executed. -/
theorem served_transmit (h : s.Served) : s.transmit.Served := by
  refine transmit_induction h (fun r => served_serve _) (fun b rest _ => h) ?_
  unfold State.sendReport
  split <;> exact h

theorem keepsBounds_flushOverflow : KeepsBounds State.flushOverflow := by
  intro s h
  unfold State.flushOverflow
  split
  · exact h
  · split
    case isTrue hroom => exact h.modClu h.requests h.busy (by rw [List.length_append]; exact hroom)
    case isFalse => exact h

theorem served_flushOverflow (h : s.Served) : s.flushOverflow.Served := by
  unfold State.flushOverflow
  (repeat' split) <;> exact h

/-! ## Events -/

theorem safe_settleLink (h : s.Bounded) : s.settleLink.Safe := by
  rw [State.safe_iff]
  constructor
  · exact keepsBounds_transmit _ (keepsBounds_flushOverflow _ (keepsBounds_transmit _ (keepsBounds_serve s h)))
  · exact served_transmit (served_flushOverflow (served_transmit (served_serve s)))

/-- With RST low nothing happens; else CLU's work at the end of the event serves the queue. -/
theorem safe_event {f : State → State} (hf : KeepsBounds f) (h : s.Safe) : (s.event f).Safe := by
  unfold State.event
  split
  · exact h
  · exact safe_settleLink (hf _ (keepsBounds_transmit s ((State.safe_iff s).mp h).1))

theorem safe_foldl_takeByte (bytes : List Byte) (h : s.Safe) :
    (bytes.foldl (fun t b => t.event (State.takeByte b)) s).Safe := by
  induction bytes generalizing s with
  | nil => exact h
  | cons b rest ih => exact ih (safe_event (keepsBounds_takeByte b) h)

theorem safe_powerOn (rate : Nat) {reports : List QueuedReport} (h : reports.length ≤ Config.reportSlots) :
    (State.powerOn rate reports).Safe :=
  ⟨Nat.zero_le _, Nat.zero_le _, h, fun _ => rfl, (by decide : 0 < Config.wrap32)⟩

end Bounds

/-! ## Every command -/

/-- The time base count wraps at 32 bits (R175); the rest of a tick is the work of blocks. -/
theorem keepsBounds_tick : KeepsBounds State.tick := by
  intro s h
  have hcount : s.countDown.Bounded := ⟨h.requests, h.busy, h.reports, Nat.mod_lt _ (by decide)⟩
  exact (kept_judge (kept_motionTick (Kept.refl s.countDown))).toLink.bounded hcount

/-- A command of the field side but the tick is the event of the work of blocks. -/
theorem exec_of_isField {c : Instr} (h : c.isField = true) (hc : c ≠ .motionTick) :
    ∃ f : State → State, (∀ s, exec c s = .next (s.event f)) ∧ ∀ t, Kept t (f t) := by
  cases c
  case motionTick => exact absurd rfl hc
  case driveFeedbackReceived bytes => exact ⟨_, fun _ => rfl, fun t => kept_keepFeedback bytes (.refl t)⟩
  case settleTimeout => exact ⟨_, fun _ => rfl, fun t => kept_settleExpired (.refl t)⟩
  case ringScan => exact ⟨_, fun _ => rfl, fun t => kept_takeScan (.refl t)⟩
  case ringFrameReceived bytes => exact ⟨_, fun _ => rfl, fun t => kept_takeRingFrame bytes (.refl t)⟩
  case stage1Expiry k => exact ⟨_, fun _ => rfl, fun t => kept_stage1Expires k (.refl t)⟩
  case stage2Expiry k => exact ⟨_, fun _ => rfl, fun t => kept_stage2Expires k (.refl t)⟩
  case indexStart => exact ⟨_, fun _ => rfl, fun t => kept_judgeReady (.refl t)⟩
  case phaseTimeout => exact ⟨_, fun _ => rfl, fun t => kept_commandExpired (.refl t)⟩
  case liftTimeout => exact ⟨_, fun _ => rfl, fun t => kept_movementExpired (.refl t)⟩
  case clampStagger => exact ⟨_, fun _ => rfl, fun t => kept_staggerExpires (.refl t)⟩
  case pulseEnd channel => exact ⟨_, fun _ => rfl, fun t => kept_endPulse channel (.refl t)⟩
  case positionRequestTimeout id => exact ⟨_, fun _ => rfl, fun t => kept_requestExpires id (.refl t)⟩
  case topup => exact ⟨_, fun _ => rfl, fun t => kept_topUpExpires (.refl t)⟩
  case topupStagger => exact ⟨_, fun _ => rfl, fun t => kept_topUpStaggerExpires (.refl t)⟩
  case waiting => exact ⟨_, fun _ => rfl, fun t => kept_waitExpires (.refl t)⟩
  case feedStart => exact ⟨_, fun _ => rfl, fun t => kept_judgeFeed (.refl t)⟩
  case feedTimeout => exact ⟨_, fun _ => rfl, fun t => kept_feedExpires (.refl t)⟩
  case readTimeout => exact ⟨_, fun _ => rfl, fun t => kept_readExpires (.refl t)⟩
  case loadWaitExpired => exact ⟨_, fun _ => rfl, fun t => kept_loadWaitExpires (.refl t)⟩
  all_goals cases h

/-- The command answers a safe state. -/
def AnswersSafe (c : Instr) (s : State) : Prop := ∃ t, exec c s = .next t ∧ t.Safe

section Command
variable {c : Instr} {s : State}

theorem answersSafe_of_event {f : State → State} (h : exec c s = .next (s.event f)) (hf : KeepsBounds f)
    (hs : s.Safe) : AnswersSafe c s := ⟨_, h, safe_event hf hs⟩

theorem answersSafe_of_request {q : Request} (h : Laws.Sendable.request c = some q) (hs : s.Safe) :
    AnswersSafe c s := by
  obtain ⟨tag, he⟩ := exec_of_request h s
  exact answersSafe_of_event he (keepsBounds_submit q tag) hs

theorem answersSafe_of_isField (h : c.isField = true) (hs : s.Safe) : AnswersSafe c s := by
  by_cases hc : c = .motionTick
  · subst hc
    exact answersSafe_of_event rfl keepsBounds_tick hs
  · obtain ⟨f, he, hkept⟩ := exec_of_isField h hc
    exact answersSafe_of_event (he s) (Kept.keepsBounds hkept) hs

/-- Requests, the field side, then the line of the cell link and the reset pin. -/
theorem answersSafe_of_safe (c : Instr) (hs : s.Safe) : AnswersSafe c s := by
  cases hq : Laws.Sendable.request c with
  | some q => exact answersSafe_of_request hq hs
  | none =>
    cases hf : c.isField with
    | true => exact answersSafe_of_isField hf hs
    | false =>
      cases c
      case unknownRequest tag kind payload => exact answersSafe_of_event rfl (keepsBounds_takeFrame _) hs
      case frameReceived bytes => exact ⟨_, rfl, safe_foldl_takeByte bytes hs⟩
      case frameGap => exact answersSafe_of_event rfl keepsBounds_takeGap hs
      case framingError => exact answersSafe_of_event rfl keepsBounds_takeFramingError hs
      case linkBreak => exact answersSafe_of_event rfl keepsBounds_takeBreak hs
      case breakEnd => exact answersSafe_of_event rfl keepsBounds_endBreak hs
      case transmitDone => exact answersSafe_of_event rfl keepsBounds_endFrame hs
      case frameAbandonLength byte => exact answersSafe_of_event rfl (keepsBounds_takeByte byte) hs
      case powerOnReset rate1 rate0 =>
        obtain ⟨h1, h2, h3, h4, h5⟩ := safe_powerOn (strapRate rate1 rate0)
          (reports := resetReports (strapRate rate1 rate0)) (by decide : 1 ≤ Config.reportSlots)
        exact ⟨_, rfl, h1, h2, h3, h4, h5⟩
      case rstAssert =>
        obtain ⟨h1, h2, h3, h4, h5⟩ := safe_powerOn s.clu.rate (reports := []) (by decide)
        exact ⟨_, rfl, h1, h2, h3, h4, h5⟩
      all_goals exact nomatch hq, hf

end Command

/-- Settles O3: the empty queue keeps the state, and the front command answers a safe state. -/
theorem everyStepKeepsTheLinkSafe : Obligations.EveryStepKeepsTheLinkSafe := by
  intro s t hs hstep
  cases hpending : s.pending with
  | nil =>
    rw [step_of_pending_nil hpending] at hstep
    cases hstep
    exact hs
  | cons c rest =>
    have hrest : ({ s with pending := rest } : State).Safe := ⟨hs.requests, hs.busy, hs.reports, hs.waiting, hs.time⟩
    obtain ⟨u, hexec, hu⟩ := answersSafe_of_safe c hrest
    rw [step_of_pending_cons hpending, hexec] at hstep
    cases hstep
    exact hu

end Sys2Proof.Machine
end

section
/-! Proof of the statement on the payloads of requests: every field written by R170 is read back by its reader, a record by
the readers of its fields in their order, and a payload by its kind (R169). -/

namespace Sys2Proof.Machine

/-! ## Words as bytes (R170) -/

theorem append_of_put16 (v : BitVec 16) : v.extractLsb' 8 8 ++ v.extractLsb' 0 8 = v :=
  (BitVec.extractLsb'_append_extractLsb'_eq_extractLsb' rfl).trans BitVec.extractLsb'_eq_self

theorem append_of_put32 (v : BitVec 32) :
    ((v.extractLsb' 24 8 ++ v.extractLsb' 16 8 : BitVec 16) ++ (v.extractLsb' 8 8 ++ v.extractLsb' 0 8 : BitVec 16)
      : BitVec 32) = v := by
  rw [BitVec.extractLsb'_append_extractLsb'_eq_extractLsb' (rfl : 24 = 16 + 8),
    BitVec.extractLsb'_append_extractLsb'_eq_extractLsb' (rfl : 8 = 0 + 8)]
  exact (BitVec.extractLsb'_append_extractLsb'_eq_extractLsb' rfl).trans BitVec.extractLsb'_eq_self

/-- The two bytes of the number of a word are those of the word. -/
theorem u16_toNat (v : BitVec 16) : u16 v.toNat = put16 v := by
  simp [u16, put16, BitVec.extractLsb', Nat.shiftRight_eq_div_pow]

theorem flag_eq (b : Bool) : flag b = [if b then 1 else 0] := by cases b <;> rfl

/-! ## Reading one field (R170) -/

/-- The reader takes these bytes from the front of any others and gives this value. -/
def Reads {α : Type} (f : Reader α) (bytes : List Byte) (a : α) : Prop := ∀ l, f (bytes ++ l) = .ok (a, l)

theorem reads_get8 (b : Byte) : Reads get8 (put8 b) b := fun _ => rfl

theorem reads_get16 (v : BitVec 16) : Reads get16 (put16 v) v := by
  intro l
  simp only [put16, List.cons_append, List.nil_append, get16, append_of_put16]

theorem reads_get32 (v : BitVec 32) : Reads get32 (put32 v) v := by
  intro l
  simp only [put32, List.cons_append, List.nil_append, get32, append_of_put32]

theorem reads_flag (b : Bool) : Reads get8 (flag b) (if b then 1 else 0) := by
  intro l
  rw [flag_eq]
  rfl

theorem asFlag_of_bool (b : Bool) : asFlag (if b then 1 else 0) = .ok b := by cases b <;> rfl

section Lists
variable {α β : Type} {f : Reader β} {put : α → List Byte} {raw : α → β}

/-- The presence byte says whether the field follows. -/
theorem reads_getOpt {o : Option α} (h : ∀ a ∈ o, Reads f (put a) (raw a)) :
    Reads (getOpt f) (opt put o) (o.map raw) := by
  intro l
  cases o with
  | none => rfl
  | some a =>
    have hread : f (put a ++ l) = .ok (raw a, l) := h a rfl l
    simp [opt, getOpt, hread]

theorem reads_getMany (h : ∀ a, Reads f (put a) (raw a)) (as : List α) :
    Reads (getMany f as.length) (as.flatMap put) (as.map raw) := by
  intro l
  induction as with
  | nil => rfl
  | cons a as ih =>
    have hread : f (put a ++ (as.flatMap put ++ l)) = .ok (raw a, as.flatMap put ++ l) := h a _
    simp only [List.flatMap_cons, List.append_assoc, List.length_cons, getMany, hread, ih, List.map_cons]

/-- The count byte holds the length of a list of fewer than 256 entries. -/
theorem reads_getList (h : ∀ a, Reads f (put a) (raw a)) {as : List α} (hlen : as.length < 256) :
    Reads (getList f) (listOf put as) (as.map raw) := by
  intro l
  have hcount : (BitVec.ofNat 8 as.length).toNat = as.length := Nat.mod_eq_of_lt hlen
  show getMany f (BitVec.ofNat 8 as.length).toNat (as.flatMap put ++ l) = _
  rw [hcount]
  exact reads_getMany h as l

/-- With nothing left over the value is the reader's (R169). -/
theorem finish_of_reads {bytes : List Byte} {a : β} (h : Reads f bytes a) : finish (f bytes) = .ok a := by
  have hread := h []
  rw [List.append_nil] at hread
  rw [hread, finish]

theorem length_lt_length_listOf (h : ∀ a, 1 ≤ (put a).length) (as : List α) : as.length < (listOf put as).length := by
  have hsum : as.length ≤ (as.map fun a => (put a).length).sum := by
    induction as with
    | nil => exact Nat.le_refl _
    | cons a as ih =>
      have hone := h a
      simp only [List.map_cons, List.sum_cons, List.length_cons]
      omega
  rw [Laws.Sendable.length_listOf]
  omega

end Lists

theorem reads_opt8 (o : Option Byte) : Reads (getOpt get8) (opt put8 o) o := by
  simpa using reads_getOpt (raw := id) fun a _ => reads_get8 a

theorem reads_opt16 (o : Option (BitVec 16)) : Reads (getOpt get16) (opt put16 o) o := by
  simpa using reads_getOpt (raw := id) fun a _ => reads_get16 a

theorem reads_opt32 (o : Option (BitVec 32)) : Reads (getOpt get32) (opt put32 o) o := by
  simpa using reads_getOpt (raw := id) fun a _ => reads_get32 a

theorem reads_bytes {l : List Byte} (h : l.length < 256) : Reads (getList get8) (listOf put8 l) l := by
  simpa using reads_getList (raw := id) reads_get8 h

/-! ## Reading a record, field by field -/

/-- SET LINE, by Table 10-3. -/
theorem reads_getLine (f : LineFields) : Reads getLine (encodeLine f) f := by
  intro l
  unfold encodeLine getLine
  simp only [List.append_assoc, bind, Except.bind, reads_opt8 _ _, reads_opt16 _ _, reads_opt32 _ _]

theorem reads_getStation (f : StationFields) :
    Reads getStation (encodeStation f)
      (f.station, f.kind, f.group, f.faultMode, f.policy, f.p1, f.p2, if f.finalGauge then 1 else 0) := by
  intro l
  simp only [encodeStation, List.append_assoc, List.cons_append, List.nil_append, getStation, get8, bind, Except.bind,
    reads_opt8 _ _, reads_get16 _ _]
  rw [flag_eq]
  rfl

/-- A cam point with its level byte as it stands. -/
def rawPoint (p : PointFields) : BitVec 32 × Byte × Byte × Option Byte × Option Byte :=
  (p.position, p.stroke, p.action, p.k, p.level.map fun v => if v then 1 else 0)

theorem reads_getPoint (p : PointFields) : Reads getPoint (encodePoint p) (rawPoint p) := by
  intro l
  simp only [encodePoint, List.append_assoc, List.cons_append, List.nil_append, getPoint, get8, bind, Except.bind,
    reads_get32 _ _, reads_opt8 _ _, reads_getOpt (fun v _ => reads_flag v) _]
  rfl

theorem pointOf_raw (p : PointFields) : pointOf (rawPoint p) = .ok p := by
  obtain ⟨position, stroke, action, k, level⟩ := p
  cases level with
  | none => rfl
  | some v => simp only [rawPoint, Option.map_some, pointOf, asFlag_of_bool]

theorem pointsOf_map_raw (l : List PointFields) : pointsOf (l.map rawPoint) = .ok l := by
  induction l with
  | nil => rfl
  | cons p l ih => simp only [List.map_cons, pointsOf, pointOf_raw, ih]

theorem reads_getBlock {b : BlockFields} (h : b.serial.length < 256) : Reads getBlock (encodeBlock b) b := by
  intro l
  simp only [encodeBlock, List.append_assoc, getBlock, reads_bytes h _]
  rfl

/-! ## Reading a payload by its kind (R169) -/

theorem parse_setLine (l : List Byte) : Request.parse 0x07 l = (finish (getLine l)).map .setLine := by
  show Request.parse 0x07 l = Except.map _ _
  unfold Request.parse
  cases finish (getLine l) <;> rfl

theorem parseStation_encodeStation (f : StationFields) : parseStation (encodeStation f) = .ok (.setStation f) := by
  simp only [parseStation, finish_of_reads (reads_getStation f), bind, Except.bind, asFlag_of_bool]

theorem parseRoute_payload {route : Byte} {l : List Byte} (h : l.length < 256) :
    parseRoute (Request.setRoute route l).payload = .ok (.setRoute route l) := by
  simp only [Request.payload, parseRoute, get8, bind, Except.bind, finish_of_reads (reads_bytes h)]

theorem parseCamWrite_payload {bank start : Byte} {l : List PointFields} (h : l.length < 256) :
    parseCamWrite (Request.camWrite bank start l).payload = .ok (.camWrite bank start l) := by
  simp only [Request.payload, List.cons_append, List.nil_append, parseCamWrite, get8, bind, Except.bind,
    finish_of_reads (reads_getList reads_getPoint h), pointsOf_map_raw]

theorem parsePlace_payload {pallet position : Byte} {block : Option BlockFields}
    (h : ∀ b ∈ block, b.serial.length < 256) :
    parsePlace (Request.palletPlace pallet position block).payload = .ok (.palletPlace pallet position block) := by
  have hread : Reads (getOpt getBlock) (opt encodeBlock block) block := by
    simpa using reads_getOpt (raw := id) fun b hb => reads_getBlock (h b hb)
  simp only [Request.payload, List.cons_append, List.nil_append, parsePlace, get8, bind, Except.bind,
    finish_of_reads hread]

theorem parseAdmit_payload (id : Byte) (resetCount : Bool) :
    parseAdmit (Request.palletAdmit id resetCount).payload = .ok (.palletAdmit id resetCount) := by
  simp only [Request.payload, flag_eq, parseAdmit, asFlag_of_bool]

theorem parseAssign_payload {serial : List Byte} {variant : Byte} (h : serial.length < 256) :
    parseAssign (Request.blockAssign serial variant).payload = .ok (.blockAssign serial variant) := by
  simp only [Request.payload, parseAssign, reads_bytes h _, bind, Except.bind]
  rfl

theorem parseMask_payload (event trace : Bool) :
    parseMask (Request.reportMask event trace).payload = .ok (.reportMask event trace) := by
  simp only [Request.payload, flag_eq, List.cons_append, List.nil_append, parseMask, asFlag_of_bool]

theorem parseEcho_payload {l : List Byte} (h : l.length < Config.maxPayload) :
    parseEcho (Request.echo l).payload = .ok (.echo l) := if_pos h

/-- What `Request.fits` leaves of a list of fields: fewer than 256 entries, so that its count byte holds their number. -/
theorem length_lt_of_listOf_le {α : Type} {put : α → List Byte} (h : ∀ a, 1 ≤ (put a).length) {l : List α}
    (hfits : (listOf put l).length ≤ Config.maxPayload) : l.length < 256 := by
  have hlt := length_lt_length_listOf h l
  simp only [Config.maxPayload] at hfits
  omega

theorem one_le_length_encodePoint (p : PointFields) : 1 ≤ (encodePoint p).length := by
  rw [Laws.Sendable.length_encodePoint, PointFields.bytes]
  omega

/-- Settles O7, request by request: the fields of fixed width read back at once, a list when its count fits its byte. -/
theorem requestsReadBack : Obligations.RequestsReadBack := by
  intro q hfits
  cases q with
  | setLine f =>
    show Request.parse 0x07 (encodeLine f) = _
    rw [parse_setLine, finish_of_reads (reads_getLine f)]
    rfl
  | setStation f => exact parseStation_encodeStation f
  | setRoute route l =>
    have hlen : (Request.setRoute route l).payload.length ≤ Config.maxPayload := of_decide_eq_true hfits
    rw [length_payload_setRoute] at hlen
    exact parseRoute_payload (by simp only [Config.maxPayload] at hlen; omega)
  | camWrite bank start l =>
    have hlen : (Request.camWrite bank start l).payload.length ≤ Config.maxPayload := of_decide_eq_true hfits
    simp only [Request.payload, List.length_append] at hlen
    exact parseCamWrite_payload (length_lt_of_listOf_le one_le_length_encodePoint (by omega))
  | palletPlace id position block =>
    have hlen : (Request.palletPlace id position block).payload.length ≤ Config.maxPayload := of_decide_eq_true hfits
    refine parsePlace_payload fun b hb => ?_
    cases hb
    simp only [Request.payload, opt, encodeBlock, List.length_append, List.length_cons] at hlen
    exact length_lt_of_listOf_le (put := put8) (fun _ => Nat.le_refl _) (by omega)
  | palletAdmit id resetCount => exact parseAdmit_payload id resetCount
  | blockAssign serial variant =>
    have hlen : (Request.blockAssign serial variant).payload.length ≤ Config.maxPayload := of_decide_eq_true hfits
    simp only [Request.payload, List.length_append] at hlen
    exact parseAssign_payload (length_lt_of_listOf_le (put := put8) (fun _ => Nat.le_refl _) (by omega))
  | reportMask event trace => exact parseMask_payload event trace
  | echo l => exact parseEcho_payload (of_decide_eq_true hfits)
  | ident | queryStatus | queryMap | queryQueue | blockEmpty | run | hold | stop | restart => rfl
  | queryStation | queryPallet | camArm | camDisarm | palletUnplace | palletWithdraw | palletRetire => rfl
  | stationOut | stationIn | recover | trial => rfl
  | palletEnrol | dispose | faultClear => rfl

end Sys2Proof.Machine
end

section
/-! Proofs of the statements on the receive framer: the rows of its table, the bytes of a frame taken one by one and as one
command, what abandons a frame, and the check value of the CRC (R167, R168; log 6). -/

namespace Sys2Proof.Machine

/-! ## The rows of the framer's table (R167) -/

/-- The framer waits for the last byte of a frame, which may make it valid. -/
def Framer.atLast : Framer → Bool
  | .crcLow .. => true
  | _ => false

theorem setFramer_of_framer {s : State} {x : Framer} (h : s.clu.framer = x) : s.setFramer x = s := by
  subst h
  rfl

/-! No row changes what the break saw, so each is stated of the framer put into its state. -/

section Rows
variable {s : State} (b : Byte) (hbreak : s.clu.breakSeen = false)
include hbreak

theorem takeByte_hunt : (s.setFramer .hunt).takeByte b = s.setFramer (if b = 0xA5 then .length else .hunt) := by
  refine (if_neg (ne_true_of_eq_false hbreak)).trans ?_
  exact (apply_ite (fun x => s.setFramer x) (b = 0xA5) .length .hunt).symm

theorem takeByte_length (h : b.toNat ≤ 240) : (s.setFramer .length).takeByte b = s.setFramer (.kind b.toNat) :=
  (if_neg (ne_true_of_eq_false hbreak)).trans (if_pos h)

theorem takeByte_long (h : 240 < b.toNat) :
    (s.setFramer .length).takeByte b = s.toHunt.modCounts fun n => { n with length := bump n.length } :=
  (if_neg (ne_true_of_eq_false hbreak)).trans (if_neg (Nat.not_le_of_lt h))

theorem takeByte_kind (n : Nat) : (s.setFramer (.kind n)).takeByte b = s.setFramer (.tag n b) :=
  if_neg (ne_true_of_eq_false hbreak)

theorem takeByte_tag (n : Nat) (k : Byte) :
    (s.setFramer (.tag n k)).takeByte b = s.setFramer (if n = 0 then .crcHigh n k b [] else .payload n k b []) :=
  if_neg (ne_true_of_eq_false hbreak)

theorem takeByte_payload (n : Nat) (k t : Byte) (got : List Byte) :
    (s.setFramer (.payload n k t got)).takeByte b =
      s.setFramer (if got.length + 1 < n then .payload n k t (got ++ [b]) else .crcHigh n k t (got ++ [b])) := by
  refine (if_neg (ne_true_of_eq_false hbreak)).trans (congrArg (fun x => s.setFramer x) ?_)
  simp only [← Nat.not_lt, ite_not]

theorem takeByte_crcHigh (n : Nat) (k t : Byte) (got : List Byte) :
    (s.setFramer (.crcHigh n k t got)).takeByte b = s.setFramer (.crcLow n k t got b) :=
  if_neg (ne_true_of_eq_false hbreak)

/-- A match of the CRC makes the frame valid (R168). -/
theorem takeByte_crcLow_match {n : Nat} {k t : Byte} {got : List Byte} {high : Byte}
    (h : crc16 ([BitVec.ofNat 8 n, k, t] ++ got) = high ++ b) :
    (s.setFramer (.crcLow n k t got high)).takeByte b =
      (s.setFramer .hunt).takeFrame { kind := k, tag := t, payload := got } :=
  (if_neg (ne_true_of_eq_false hbreak)).trans (if_pos h)

/-- A mismatch abandons the frame with count CRC (R168). -/
theorem takeByte_crcLow_mismatch {n : Nat} {k t : Byte} {got : List Byte} {high : Byte}
    (h : crc16 ([BitVec.ofNat 8 n, k, t] ++ got) ≠ high ++ b) :
    (s.setFramer (.crcLow n k t got high)).takeByte b =
      (s.setFramer .hunt).modCounts fun n => { n with crc := bump n.crc } :=
  (if_neg (ne_true_of_eq_false hbreak)).trans (if_neg h)

end Rows

/-! ## The bytes of a frame, one by one -/

/-- A way of taking a byte that is the framer's table until the last byte of a frame. -/
def TakesByTable (g : State → Byte → State) (s : State) : Prop :=
  ∀ (x : Framer) (b : Byte), x.atLast = false → g (s.setFramer x) b = (s.setFramer x).takeByte b

section Fold
variable {s : State} {g : State → Byte → State} (hg : TakesByTable g s) (hbreak : s.clu.breakSeen = false)
include hg hbreak

/-- The payload fills up to the number of bytes LENGTH gave. -/
theorem foldl_payload {n : Nat} (k t : Byte) (got : List Byte) {rest : List Byte} (hrest : rest ≠ [])
    (hlen : got.length + rest.length = n) :
    rest.foldl g (s.setFramer (.payload n k t got)) = s.setFramer (.crcHigh n k t (got ++ rest)) := by
  induction rest generalizing got with
  | nil => exact absurd rfl hrest
  | cons b rest ih =>
    rw [List.foldl_cons, hg _ _ rfl, takeByte_payload b hbreak]
    simp only [List.length_cons] at hlen
    cases rest with
    | nil =>
      rw [if_neg (by simp only [List.length_nil] at hlen; omega)]
      rfl
    | cons c rest =>
      simp only [List.length_cons] at hlen
      rw [if_pos (by omega), ih (got ++ [b]) (List.cons_ne_nil c rest), List.append_assoc, List.singleton_append]
      simp only [List.length_append, List.length_cons, List.length_nil]
      omega

/-- Every byte of a frame but the last moves the framer alone. -/
theorem foldl_frame (hhunt : s.clu.framer = .hunt) (kind tag high low : Byte) {payload : List Byte}
    (hlen : payload.length ≤ 240) :
    (0xA5 :: ([BitVec.ofNat 8 payload.length, kind, tag] ++ payload) ++ [high, low]).foldl g s =
      g (s.setFramer (.crcLow payload.length kind tag payload high)) low := by
  have hcount : (BitVec.ofNat 8 payload.length).toNat = payload.length := Nat.mod_eq_of_lt (by omega)
  have hstart : g s 0xA5 = s.setFramer .length := by
    have hfirst := hg .hunt 0xA5 rfl
    rwa [takeByte_hunt _ hbreak, if_pos rfl, setFramer_of_framer hhunt] at hfirst
  have hhead : [0xA5, BitVec.ofNat 8 payload.length, kind, tag].foldl g s =
      s.setFramer (if payload.length = 0 then .crcHigh payload.length kind tag []
        else .payload payload.length kind tag []) := by
    simp only [List.foldl_cons, List.foldl_nil]
    rw [hstart, hg _ _ rfl, takeByte_length _ hbreak (by omega), hcount, hg _ _ rfl, takeByte_kind _ hbreak, hg _ _ rfl,
      takeByte_tag _ hbreak]
  have hbody : (0xA5 :: ([BitVec.ofNat 8 payload.length, kind, tag] ++ payload)).foldl g s =
      s.setFramer (.crcHigh payload.length kind tag payload) := by
    show ([0xA5, BitVec.ofNat 8 payload.length, kind, tag] ++ payload).foldl g s = _
    rw [List.foldl_append, hhead]
    cases payload with
    | nil => rfl
    | cons c rest =>
      have hsome : (c :: rest).length ≠ 0 := Nat.succ_ne_zero _
      rw [if_neg hsome]
      exact foldl_payload hg hbreak kind tag [] (List.cons_ne_nil c rest) (Nat.zero_add _)
  rw [List.foldl_append, hbody, List.foldl_cons, hg _ _ rfl, takeByte_crcHigh _ hbreak]
  rfl

end Fold

/-- A frame of Table 10-1 with the two bytes of its CRC apart. -/
theorem linkFrame_eq (kind tag : Byte) (payload : List Byte) :
    ∃ high low : Byte, crc16 ([BitVec.ofNat 8 payload.length, kind, tag] ++ payload) = high ++ low ∧
      linkFrame kind tag payload =
        0xA5 :: ([BitVec.ofNat 8 payload.length, kind, tag] ++ payload) ++ [high, low] := by
  refine ⟨_, _, (append_of_put16 _).symm, ?_⟩
  show 0xA5 :: (([BitVec.ofNat 8 payload.length, kind, tag] ++ payload) ++
    u16 (crc16 ([BitVec.ofNat 8 payload.length, kind, tag] ++ payload)).toNat) = _
  rw [u16_toNat]
  rfl

/-- Settles O8: the bytes before the last move the framer, and the last makes the frame valid. -/
theorem framesReadBack : Obligations.FramesReadBack := by
  intro s kind tag payload hlen hhunt hbreak
  obtain ⟨high, low, hcrc, hframe⟩ := linkFrame_eq kind tag payload
  rw [hframe, foldl_frame (fun _ _ _ => rfl) hbreak hhunt kind tag high low hlen, takeByte_crcLow_match low hbreak hcrc,
    setFramer_of_framer hhunt]

/-! ## A byte as an event (log 6) -/

/-- With a frame being sent, an event is its work and then CLU's at its end. -/
theorem event_of_transmitting {s : State} (f : State → State) (hreset : s.inReset = false)
    (hsending : s.clu.transmitting.isSome = true) : s.event f = (f s).settleLink := by
  unfold State.event
  rw [if_neg (ne_true_of_eq_false hreset), transmit_busy hsending]

/-- The last byte of a frame whose CRC matches is the event of that valid frame (R168). -/
theorem event_takeByte_match {s : State} (hcalm : s.Calm) (hbreak : s.clu.breakSeen = false) {n : Nat} {k t : Byte} {got : List Byte}
    {high b : Byte}     (h : crc16 ([BitVec.ofNat 8 n, k, t] ++ got) = high ++ b) :
    (s.setFramer (.crcLow n k t got high)).event (State.takeByte b) =
      (s.setFramer .hunt).event (State.takeFrame { kind := k, tag := t, payload := got }) := by
  obtain ⟨hreset, hsending, -⟩ := hcalm
  rw [event_of_transmitting (s := s.setFramer (.crcLow n k t got high)) _ hreset hsending,
    event_of_transmitting (s := s.setFramer .hunt) _ hreset hsending, takeByte_crcLow_match b hbreak h]

section Events
variable {s : State} (hcalm : s.Calm) (hover : s.clu.overflow.first = none)
include hcalm hover

/-- What moves the framer and the link counts alone brings no more work of CLU on a calm link. -/
theorem event_of_framer {f : State → State} {x : Framer} {n : LinkCounts}
    (hf : f s = { s with clu := { s.clu with framer := x, counts := n } }) :
    s.event f = { s with clu := { s.clu with framer := x, counts := n } } := by
  obtain ⟨hreset, hsending, hidle⟩ := hcalm
  rw [event_of_transmitting f hreset hsending, hf]
  refine (settleLink_calm ?_ ?_).trans (flushOverflow_clear ?_)
  · exact hsending
  · exact hidle
  · exact hover

theorem event_same {f : State → State} (hf : f s = s) : s.event f = s :=
  event_of_framer hcalm hover (x := s.clu.framer) (n := s.clu.counts) hf

theorem event_takeByte_setFramer {x y : Framer} {b : Byte} (h : (s.setFramer x).takeByte b = s.setFramer y) :
    (s.setFramer x).event (State.takeByte b) = s.setFramer y :=
  event_of_framer (s := s.setFramer x) hcalm hover h

/-- On a calm link a byte as an event is the framer's table, but for the last byte of a frame. -/
theorem takesByTable_event (hbreak : s.clu.breakSeen = false) :
    TakesByTable (fun t b => t.event (State.takeByte b)) s := by
  intro x b hx
  have hmove : ∀ y, (s.setFramer x).takeByte b = s.setFramer y →
      (s.setFramer x).event (State.takeByte b) = (s.setFramer x).takeByte b :=
    fun y hy => (event_takeByte_setFramer hcalm hover hy).trans hy.symm
  cases x with
  | hunt => exact hmove _ (takeByte_hunt b hbreak)
  | length =>
    by_cases hb : b.toNat ≤ 240
    · exact hmove _ (takeByte_length b hbreak hb)
    · have hlong := takeByte_long b hbreak (Nat.lt_of_not_le hb)
      exact (event_of_framer (s := s.setFramer .length) hcalm hover hlong).trans hlong.symm
  | kind n => exact hmove _ (takeByte_kind b hbreak n)
  | tag n k => exact hmove _ (takeByte_tag b hbreak n k)
  | payload n k t got => exact hmove _ (takeByte_payload b hbreak n k t got)
  | crcHigh n k t got => exact hmove _ (takeByte_crcHigh b hbreak n k t got)
  | crcLow n k t got high => cases hx

theorem event_takeByte_mismatch (hbreak : s.clu.breakSeen = false) {n : Nat} {k t : Byte} {got : List Byte}
    {high b : Byte} (h : crc16 ([BitVec.ofNat 8 n, k, t] ++ got) ≠ high ++ b) :
    (s.setFramer (.crcLow n k t got high)).event (State.takeByte b) =
      { s with clu := { s.clu with
        framer := .hunt, counts := { s.clu.counts with crc := min (s.clu.counts.crc + 1) 65535 } } } :=
  event_of_framer (s := s.setFramer (.crcLow n k t got high)) hcalm hover (takeByte_crcLow_mismatch b hbreak h)

end Events

/-! ## Gaps and framing errors (R167) -/

section Abandon
variable {s : State}

theorem takeGap_hunt (h : s.clu.framer = .hunt) : s.takeGap = s := if_pos h

theorem takeGap_frame (h : s.clu.framer ≠ .hunt) :
    s.takeGap = { s with clu := { s.clu with
      framer := .hunt, counts := { s.clu.counts with gap := min (s.clu.counts.gap + 1) 65535 } } } := if_neg h

theorem takeFramingError_hunt (h : s.clu.framer = .hunt) : s.takeFramingError = s := if_pos h

theorem takeFramingError_frame (h : s.clu.framer ≠ .hunt) :
    s.takeFramingError = { s with clu := { s.clu with
      framer := .hunt, counts := { s.clu.counts with framing := min (s.clu.counts.framing + 1) 65535 } } } := if_neg h

end Abandon

/-! ## The commands (log 6) -/

theorem exec_frameGap (s : State) : exec .frameGap s = .next (s.event State.takeGap) := rfl

theorem exec_framingError (s : State) : exec .framingError s = .next (s.event State.takeFramingError) := rfl

theorem exec_frameAbandonLength (b : Byte) (s : State) :
    exec (.frameAbandonLength b) s = .next (s.event (State.takeByte b)) := rfl

theorem exec_frameReceived (bytes : List Byte) (s : State) :
    exec (.frameReceived bytes) s = .next (bytes.foldl (fun t b => t.event (State.takeByte b)) s) := rfl

/-! ## The statements -/

/-- A valid frame of another kind is discarded with count KIND (R169). -/
theorem takeFrame_otherKind {f : Frame} (s : State) (h : f.kind.toNat = 0 ∨ 0x40 ≤ f.kind.toNat) :
    s.takeFrame f =
      { s with clu := { s.clu with counts := { s.clu.counts with kind := min (s.clu.counts.kind + 1) 65535 } } } :=
  if_neg (by omega)

/-- Settles O9: the bytes before the last move the framer alone, and the last is judged by the CRC and the kind. -/
theorem frameReceivedIsTheEventOfItsFrame : Obligations.FrameReceivedIsTheEventOfItsFrame := by
  refine ⟨?_, fun s f => ⟨fun hlow hhigh => if_pos ⟨hlow, hhigh⟩, takeFrame_otherKind s⟩⟩
  intro s kind tag payload hfree hover hlen hhunt hbreak
  have hcalm : s.Calm := ⟨hfree.1, hfree.2.1, .inr hfree.2.2.2⟩
  have hbytes := foldl_frame (takesByTable_event hcalm hover hbreak) hbreak hhunt kind tag
  have hwhole : exec (.frameReceived (linkFrame kind tag payload)) s =
      .next (s.event (State.takeFrame { kind := kind, tag := tag, payload := payload })) := by
    obtain ⟨high, low, hcrc, hframe⟩ := linkFrame_eq kind tag payload
    rw [exec_frameReceived, hframe, hbytes high low hlen, event_takeByte_match hcalm hbreak hcrc,
      setFramer_of_framer hhunt]
  refine ⟨hwhole, fun hkind => ?_, ?_⟩
  · rw [hwhole, event_of_framer hcalm hover (takeFrame_otherKind s hkind)]
  · rintro _ high low rfl hcrc
    rw [exec_frameReceived, hbytes high low hlen, event_takeByte_mismatch hcalm hover hbreak (Ne.symm hcrc), ← hhunt]

/-- Settles O11, row by row of the framer's table. -/
theorem framesAreAbandoned : Obligations.FramesAreAbandoned := by
  intro s hcalm hover
  refine ⟨?_, ?_, ?_, ?_⟩
  · rw [exec_frameGap]
    split
    case isTrue hhunt => rw [event_same hcalm hover (takeGap_hunt hhunt)]
    case isFalse hframe => rw [event_of_framer hcalm hover (takeGap_frame hframe)]
  · rw [exec_framingError]
    split
    case isTrue hhunt => rw [event_same hcalm hover (takeFramingError_hunt hhunt)]
    case isFalse hframe => rw [event_of_framer hcalm hover (takeFramingError_frame hframe)]
  · intro b hbreak hlength hb
    have hlong := takeByte_long b hbreak hb
    rw [setFramer_of_framer hlength] at hlong
    refine ⟨?_, rfl⟩
    rw [exec_frameAbandonLength]
    exact congrArg _ (event_of_framer hcalm hover hlong)
  · intro b fr hbreak hfr
    obtain rfl : fr = fun x => s.setFramer x := funext hfr
    have hrow : ∀ {x y : Framer}, s.clu.framer = x → (s.setFramer x).takeByte b = s.setFramer y →
        exec (.frameReceived [b]) s = .next (s.setFramer y) := by
      intro x y hx hy
      have hevent := event_takeByte_setFramer hcalm hover hy
      rw [setFramer_of_framer hx] at hevent
      exact congrArg _ hevent
    refine ⟨fun hx => hrow hx (takeByte_hunt b hbreak), fun hx hb => hrow hx (takeByte_length b hbreak hb),
      fun n hx => hrow hx (takeByte_kind b hbreak n), fun n k hx => hrow hx (takeByte_tag b hbreak n k),
      fun n k t got hx => hrow hx (takeByte_payload b hbreak n k t got),
      fun n k t got hx => hrow hx (takeByte_crcHigh b hbreak n k t got),
      fun n k t got high hx => ⟨fun hcrc => ?_, fun hcrc => ?_⟩⟩
    · have hevent := event_takeByte_mismatch hcalm hover hbreak hcrc
      rw [setFramer_of_framer hx] at hevent
      exact congrArg _ hevent
    · have hevent := event_takeByte_match hcalm hbreak hcrc
      rw [setFramer_of_framer hx] at hevent
      exact congrArg _ hevent

/-- Settles O10 by evaluation. -/
theorem crcCheckValue : Obligations.CrcCheckValue := ⟨by simp [crc16, crcByte, crcShift], rfl, rfl⟩

end Sys2Proof.Machine
end

section
/-! Proofs of the statements on requests and replies: what the transmitter takes next (R174), the request the freed slot lets
through (R172), a request that arrives (R171), and the requests CLU answers itself (R169, R175, R177). -/

namespace Sys2Proof.Machine

/-! ## Executing the head of the queue (R169, R172) -/

section Serve
variable {s : State}

theorem serve_of_no_request (h : s.clu.requestQueue = []) : s.serve = s := by
  unfold State.serve
  rw [h]
  cases s.clu.replySlot <;> rfl

theorem serve_of_reply {r : Reply} (h : s.clu.replySlot = some r) : s.serve = s := by
  unfold State.serve
  rw [h]

theorem serve_of_request {f : Frame} {rest : List Frame} (hslot : s.clu.replySlot = none)
    (hqueue : s.clu.requestQueue = f :: rest) :
    s.serve = ((s.modClu fun c => { c with requestQueue := rest }).execute f).2.placeReply f.kind f.tag
      ((s.modClu fun c => { c with requestQueue := rest }).execute f).1 := by
  unfold State.serve
  rw [hslot, hqueue]

theorem length_payload_of_fits {q : Request} (h : q.fits = true) : q.payload.length ≤ Config.maxPayload := by
  cases q with
  | echo l => exact Nat.le_of_lt (of_decide_eq_true h)
  | _ => simpa only [Request.fits, decide_eq_true_eq] using h

/-- The frame of a request that fits is read back and taken by the owning block. -/
theorem execute_frame {q : Request} (h : q.fits = true) (tag : Byte) (s : State) :
    s.execute (q.frame tag) = q.perform s := by
  unfold State.execute
  rw [show Request.parse (q.frame tag).kind (q.frame tag).payload = .ok q from requestsReadBack q h]
  exact performIn_fits s (length_payload_of_fits h)

end Serve

/-! ## The transmitter's choice (R172, R174) -/

section Transmit
variable {s : State} (hidle : s.clu.transmitting = none)
include hidle

/-- The reply goes once no BUSY stands before it. -/
theorem transmit_reply {r : Reply} (hslot : s.clu.replySlot = some r) (h : s.clu.busyList = [] ∨ s.clu.busyAhead = 0) :
    s.transmit = s.sendReply r := by
  unfold State.transmit
  rw [hidle, hslot]
  cases hbusy : s.clu.busyList with
  | nil => rfl
  | cons b rest =>
    rw [hbusy] at h
    exact if_pos (h.resolve_left (List.cons_ne_nil b rest))

/-- A BUSY goes with no reply in the slot, or before the reply it came before. -/
theorem transmit_busyReply {b : BusyReply} {rest : List BusyReply} (hbusy : s.clu.busyList = b :: rest)
    (h : s.clu.replySlot = none ∨ s.clu.busyAhead ≠ 0) : s.transmit = s.sendBusy b rest := by
  unfold State.transmit
  rw [hidle, hbusy]
  cases hslot : s.clu.replySlot with
  | none => rfl
  | some r =>
    rw [hslot] at h
    exact if_neg (h.resolve_left (Option.some_ne_none r))

/-- A report goes with no reply and no BUSY waiting. -/
theorem transmit_report (hslot : s.clu.replySlot = none) (hbusy : s.clu.busyList = []) : s.transmit = s.sendReport := by
  unfold State.transmit
  rw [hidle, hslot, hbusy]

end Transmit

/-- The sending of the reply lets the request at the head of the queue be executed. -/
theorem sendReply_request {s : State} (r : Reply) {f : Frame} {rest : List Frame} (h : s.clu.requestQueue = f :: rest) :
    let u := { s with clu := { s.clu with replySlot := none, transmitting := some r.bytes, requestQueue := rest } }
    s.sendReply r = (u.execute f).2.placeReply f.kind f.tag (u.execute f).1 :=
  serve_of_request (s := (s.modClu fun c => { c with replySlot := none }).beginFrame r.bytes) rfl h

theorem sendReport_nil {s : State} (h : s.clu.reports = []) : s.sendReport = s := by
  rw [State.sendReport, h]

theorem sendReport_cons {s : State} {q : QueuedReport} {rest : List QueuedReport} (h : s.clu.reports = q :: rest) :
    s.sendReport = { s with clu := { s.clu with reports := rest, transmitting := some q.bytes } } := by
  rw [State.sendReport, h]
  rfl

theorem flushOverflow_transmitting (s : State) : s.flushOverflow.clu.transmitting = s.clu.transmitting := by
  unfold State.flushOverflow
  (repeat' split) <;> rfl

/-- What is left of an event's end once a frame has begun: OVERFLOW. -/
theorem settleLink_of_transmit {s t : State} (hserve : s.serve = s) (ht : s.transmit = t)
    (hsending : t.clu.transmitting.isSome = true) : s.settleLink = t.flushOverflow := by
  unfold State.settleLink
  rw [hserve, ht]
  exact transmit_busy (by rw [flushOverflow_transmitting]; exact hsending)

/-- With a frame being sent, the end of an event serves the queue and queues OVERFLOW. -/
theorem settleLink_of_serve {s t : State} (hserve : s.serve = t) (hsending : t.clu.transmitting.isSome = true) :
    s.settleLink = t.flushOverflow := by
  unfold State.settleLink
  rw [hserve, transmit_busy hsending]
  exact transmit_busy (by rw [flushOverflow_transmitting]; exact hsending)

section Done
variable {s t : State} (hreset : s.inReset = false) (hsending : s.clu.transmitting.isSome = true)
include hreset hsending

theorem exec_transmitDone : exec .transmitDone s = .next s.endFrame.settleLink :=
  congrArg _ (event_of_transmitting State.endFrame hreset hsending)

/-- The transmitter begins its next frame; OVERFLOW may join the reports. -/
theorem exec_transmitDone_begins (hserve : s.endFrame.serve = s.endFrame) (ht : s.endFrame.transmit = t)
    (hbegun : t.clu.transmitting.isSome = true) : exec .transmitDone s = .next t.flushOverflow := by
  rw [exec_transmitDone hreset hsending, settleLink_of_transmit hserve ht hbegun]

end Done

/-- Settles O13, by what waits: the reply, a BUSY, a report, or nothing. -/
theorem transmitDoneChoosesTheNextFrame : Obligations.TransmitDoneChoosesTheNextFrame := by
  intro s hreset hqueue hover
  have hserve : s.endFrame.serve = s.endFrame := serve_of_no_request hqueue
  have hbegins : ∀ {t}, s.clu.transmitting.isSome = true → s.endFrame.transmit = t →
      t.clu.transmitting.isSome = true → t.clu.overflow.first = none → exec .transmitDone s = .next t := by
    intro t hsending ht hbegun hclear
    rw [exec_transmitDone_begins hreset hsending hserve ht hbegun, flushOverflow_clear hclear]
  refine ⟨?_, ?_, ?_, ?_⟩
  · intro r hsending hslot hfirst
    refine hbegins hsending ((transmit_reply (s := s.endFrame) rfl hslot hfirst).trans ?_) rfl hover
    exact serve_of_no_request hqueue
  · intro b rest hsending hbusy hfirst
    exact hbegins hsending (transmit_busyReply (s := s.endFrame) rfl hbusy hfirst) rfl hover
  · intro q rest hsending hslot hbusy hreports
    refine hbegins hsending ((transmit_report (s := s.endFrame) rfl hslot hbusy).trans ?_) rfl hover
    exact sendReport_cons hreports
  · intro hsending hslot hbusy hreports
    have hnone : s.endFrame.transmit = s.endFrame :=
      (transmit_report (s := s.endFrame) rfl hslot hbusy).trans (sendReport_nil hreports)
    have hclear : s.endFrame.flushOverflow = s.endFrame := flushOverflow_clear hover
    rw [exec_transmitDone hreset hsending, State.settleLink, hserve, hnone, hclear, hnone]
    rfl

/-- Settles O14: the sending of the reply frees the slot and serves the head of the queue, whose frame is read back. -/
theorem freedSlotExecutesTheNextRequest : Obligations.FreedSlotExecutesTheNextRequest := by
  intro s r q tag rest hreset hsending hslot hbusy hfits hqueue
  refine ⟨_, rfl, ?_⟩
  generalize hu : ({ s with clu := { s.clu with
    replySlot := none, transmitting := some r.bytes, requestQueue := rest } } : State) = u
  have hsend : s.endFrame.transmit = (q.perform u).2.placeReply q.kind tag (q.perform u).1 := by
    refine (transmit_reply (s := s.endFrame) rfl hslot (.inl hbusy)).trans ?_
    rw [sendReply_request (s := s.endFrame) r hqueue, execute_frame hfits, ← hu]
    rfl
  have hbegun : (q.perform u).2.clu.transmitting.isSome = true := by
    rw [(linkKept_perform q u).transmitting, ← hu]
    rfl
  exact exec_transmitDone_begins hreset hsending (serve_of_reply hslot) hsend hbegun

/-! ## A request that arrives (R171) -/

section Arrive
variable {s : State}

theorem arrive_of_room (f : Frame) (h : s.clu.requestQueue.length < 4) :
    s.arrive f = { s with clu := { s.clu with requestQueue := s.clu.requestQueue ++ [f] } } := if_pos h

theorem arrive_busy (f : Frame) (hfull : 4 ≤ s.clu.requestQueue.length) (hroom : s.clu.busyList.length < 4) :
    s.arrive f =
      { s with clu := { s.clu with
        busyList := s.clu.busyList ++ [{ kind := f.kind, tag := f.tag }]
        counts := { s.clu.counts with busy := min (s.clu.counts.busy + 1) 65535 } } } :=
  (if_neg (Nat.not_lt_of_le hfull)).trans (if_pos hroom)

theorem arrive_dropped (f : Frame) (hfull : 4 ≤ s.clu.requestQueue.length) (hbusy : 4 ≤ s.clu.busyList.length) :
    s.arrive f =
      { s with clu := { s.clu with counts := { s.clu.counts with dropped := min (s.clu.counts.dropped + 1) 65535 } } } :=
  (if_neg (Nat.not_lt_of_le hfull)).trans (if_neg (Nat.not_lt_of_le hbusy))

end Arrive

/-- Settles O15, by the room in the queue and in the BUSY list. -/
theorem arrivingRequestQueuesOrIsBusy : Obligations.ArrivingRequestQueuesOrIsBusy :=
  fun _ f => ⟨arrive_of_room f, arrive_busy f, arrive_dropped f⟩

/-! ## The requests of CLU (R169, R175, R177) -/

theorem parse_unknownKind {kind : Byte} (h : 0x21 ≤ kind.toNat) (l : List Byte) :
    Request.parse kind l = .error .unknownKind := by
  unfold Request.parse
  split
  case h_33 => rfl
  all_goals omega

/-- A frame of a kind of 21h..3Fh joins the empty queue and is refused as it is executed. -/
theorem serve_takeFrame_unknownKind {s : State} {f : Frame} (hslot : s.clu.replySlot = none)
    (hqueue : s.clu.requestQueue = []) (hlow : 0x21 ≤ f.kind.toNat) (hhigh : f.kind.toNat ≤ 0x3F) :
    (s.takeFrame f).serve = s.placeReply f.kind f.tag (.refused .unknownKind []) := by
  have harrive : s.takeFrame f = s.modClu fun c => { c with requestQueue := s.clu.requestQueue ++ [f] } :=
    (if_pos ⟨Nat.le_trans (by decide) hlow, hhigh⟩).trans (arrive_of_room f (by rw [hqueue]; decide))
  rw [harrive, hqueue, serve_of_request (s := s.modClu fun c => { c with requestQueue := [] ++ [f] }) hslot rfl]
  simp only [State.execute, parse_unknownKind hlow]
  rw [← hqueue]
  rfl

/-- On a free link all of that is one event. -/
theorem exec_unknownRequest {s : State} (hfree : s.Free) (tag : Byte) {kind : Byte} (l : List Byte)
    (hlow : 0x21 ≤ kind.toNat) (hhigh : kind.toNat ≤ 0x3F) :
    exec (.unknownRequest tag kind l) s = .next (s.answered kind tag (.refused .unknownKind [])) := by
  obtain ⟨hreset, hsending, hslot, hqueue⟩ := hfree
  have hserve := serve_takeFrame_unknownKind (f := { kind := kind, tag := tag, payload := l }) hslot hqueue hlow hhigh
  refine congrArg _ ((event_of_transmitting _ hreset hsending).trans ?_)
  exact settleLink_of_serve hserve hsending

/-- Settles O17, request by request. -/
theorem linkRequestsAnswer : Obligations.LinkRequestsAnswer := by
  intro s tag hfree
  refine ⟨?_, fun l hlen => ?_, fun e t => ?_, fun kind l => exec_unknownRequest hfree tag l⟩
  · exact congrArg _ (requestEvent_of_perform (q := .ident) hfree (by decide) rfl)
  · have hroom : l.length < Config.maxPayload := Nat.lt_succ_of_le hlen
    exact congrArg _ (requestEvent_of_perform (q := .echo l) hfree (Nat.le_of_lt hroom) (if_pos hroom))
  · refine congrArg _ (requestEvent_of_perform (q := .reportMask e t) hfree ?_ ?_)
    · simp [Request.payload, flag_eq, Config.maxPayload]
    · simp only [Request.perform, State.doReportMask, flag_eq]
      rfl

end Sys2Proof.Machine
end

section
/-! Proof of the statement on reports: what becomes of a report by the table of R176, the overflow record, the kind and the
class of every report (Table 10-6), and the bytes of a report frame (R175). -/

namespace Sys2Proof.Machine

/-! ## The table of R176 -/

section Table
variable {c : Clu} {q : QueuedReport}

theorem take_of_masked (h : c.passes q.report.cls = false) : c.take q = c := if_neg (ne_true_of_eq_false h)

theorem take_of_passes (h : c.passes q.report.cls = true) : c.take q = c.enqueue q := if_pos h

theorem enqueue_of_room (h : c.reports.length < 32) : c.enqueue q = { c with reports := c.reports ++ [q] } := if_pos h

/-- In a full queue the new report is lost, unless it is an ALARM and another report can go for it. -/
theorem enqueue_lost (hfull : 32 ≤ c.reports.length)
    (h : q.report.cls ≠ .alarm ∨ ∀ r ∈ c.reports, r.report.cls = .alarm) :
    c.enqueue q = { c with overflow := c.overflow.lose q.report.cls q.time } := by
  refine (if_neg (Nat.not_lt_of_le hfull)).trans ?_
  obtain hclass | halarms := h
  · split
    case h_1 hcls _ => exact absurd hcls hclass
    case h_2 => rfl
  · have hnone : c.reports.findIdx? (fun r => r.report.cls != .alarm) = none := by
      rw [List.findIdx?_eq_none_iff]
      intro r hr
      simp [halarms r hr]
    rw [hnone]
    cases q.report.cls <;> rfl

/-- An ALARM goes into a full queue for the oldest report of another class. -/
theorem enqueue_alarm {a b : List QueuedReport} {r : QueuedReport} (hfull : 32 ≤ c.reports.length)
    (hcls : q.report.cls = .alarm) (hreports : c.reports = a ++ r :: b) (ha : ∀ x ∈ a, x.report.cls = .alarm)
    (hr : r.report.cls ≠ .alarm) :
    c.enqueue q = { c with reports := a ++ b ++ [q], overflow := c.overflow.lose r.report.cls q.time } := by
  have hindex : c.reports.findIdx? (fun r => r.report.cls != .alarm) = some a.length := by
    rw [hreports, List.findIdx?_append, List.findIdx?_eq_none_iff.mpr (fun x hx => by simp [ha x hx])]
    simp [List.findIdx?_cons, hr]
  refine (if_neg (Nat.not_lt_of_le hfull)).trans ?_
  rw [hcls, hindex]
  simp [hreports, List.eraseIdx_append_of_length_le]

end Table

/-! ## The overflow record (R176) -/

/-- OVERFLOW needs a loss and room. -/
theorem flushOverflow_waits {s : State} (h : s.clu.overflow.first = none ∨ 32 ≤ s.clu.reports.length) :
    s.flushOverflow = s := by
  unfold State.flushOverflow
  obtain hclear | hfull := h
  · rw [hclear]
  · cases s.clu.overflow.first with
    | none => rfl
    | some time => exact if_neg (Nat.not_lt_of_le hfull)

theorem flushOverflow_joins {s : State} {time : Nat} (h : s.clu.overflow.first = some time)
    (hroom : s.clu.reports.length < 32) :
    s.flushOverflow =
      { s with clu := { s.clu with
        reports := s.clu.reports ++
          [{ report := .overflow s.clu.overflow.alarms s.clu.overflow.events s.clu.overflow.traces time
             time := s.timeBase, indexCount := s.prg.indexCount }]
        overflow := { alarms := 0, events := 0, traces := 0, first := none } } } := by
  unfold State.flushOverflow
  rw [h]
  exact if_pos hroom

/-- Settles O16: the table's cases, then the list of reports, then the fields as bytes. -/
theorem reportsAreTakenByTheTable : Obligations.ReportsAreTakenByTheTable := by
  refine ⟨fun c q => ⟨take_of_masked, fun hpass hroom => ?_, fun hpass hfull h => ?_, ?_, ⟨rfl, rfl, rfl⟩,
    fun o time => ⟨rfl, rfl, rfl⟩, fun s => ⟨flushOverflow_waits, fun time => flushOverflow_joins⟩⟩, fun r => ?_, ?_⟩
  · rw [take_of_passes hpass, enqueue_of_room hroom]
  · rw [take_of_passes hpass, enqueue_lost hfull h]
  · intro a b r hfull hcls hreports ha hr
    have hpass : c.passes q.report.cls = true := by rw [hcls]; rfl
    rw [take_of_passes hpass, enqueue_alarm hfull hcls hreports ha hr]
  · cases r with
    | driveState old new => cases new <;> rfl
    | _ => rfl
  · intro r time k byte word hbyte hword
    obtain rfl : byte = fun m => BitVec.ofNat 8 m := funext hbyte
    obtain rfl : word = u32 := funext hword
    refine ⟨?_, fun a e t first => rfl⟩
    rw [QueuedReport.bytes, QueuedReport.payload]
    cases r.cls <;> rfl

end Sys2Proof.Machine
end
